-- ==== Sys2Proof/Word.lean ====
section
/-! DEFINITION. The two word widths of the part: bytes on the wheel line, the configuration line and the tap port,
and the 16-bit words of the CRC, the reasons set and the error flags (chapter 12). -/

namespace Sys2Proof

/-- One byte as it travels on any of the part's lines (12). -/
abbrev Byte := BitVec 8

/-- Sixteen bits: a CRC (R4), a reasons set (12.5), the error flags (R194). -/
abbrev Word := BitVec 16

end Sys2Proof
end

