-- ==== Sys2Proof/Machine/Names.lean ====
section
/-! DEFINITION. The names the spec gives to modes, phases, kinds and reasons, and their codes (section 12.5). -/

namespace Sys2Proof

/-- Motion levels, most restrictive first (R46). `noLimit` is the level NONE. -/
inductive Level where
  | stop | creep | cruise | noLimit
  deriving DecidableEq, Repr

/-- Station roles (00_scope.md 1.2). -/
inductive Role where
  | absent | cabin | platform | drive | mast | console
  deriving DecidableEq, Repr

/-- Cabin phases (R66, chapter 5). -/
inductive Phase where
  | away | passing | opening | opened | closing | weighing | ready | overloaded | doorFault
  deriving DecidableEq, Repr

/-- Last marker of a cabin (R66, R81); `none` of the spec is `noMarker`. -/
inductive Marker where
  | noMarker | arrive | turn | close | depart
  deriving DecidableEq, Repr

/-- Wind stages (chapter 7). -/
inductive Stage where
  | calm | watch | hold | clear | shut
  deriving DecidableEq, Repr

/-- Drive states (chapter 3.4). -/
inductive DriveState where
  | braked | releasing | moving | stopping | faulted
  deriving DecidableEq, Repr

/-- Arrival modes (R82, R107). -/
inductive ArrivalMode where
  | normal | exitOnly | pass
  deriving DecidableEq, Repr

/-- Segments of the platform zone (R104). -/
inductive Segment where
  | exit | entry | closing
  deriving DecidableEq, Repr

/-- The two gates (R114). -/
inductive GateId where
  | exit | entry
  deriving DecidableEq, Repr

/-- Published gate states (R115). -/
inductive GateState where
  | closed | opening | opened | closing | faulted
  deriving DecidableEq, Repr

/-- The four beam inputs (R113). -/
inductive Beam where
  | exitOut | exitIn | entryIn | entryOut
  deriving DecidableEq, Repr

/-- Zone fault kinds (R122). -/
inductive ZoneFaultKind where
  | order | index | phase
  deriving DecidableEq, Repr

/-- Notice kinds (R167). -/
inductive NoticeKind where
  | arrive | turn | close | depart | cabinCall | doorFault | windStage | driveFault | zoneFault | gateFault
  | dwellExpired | countDoubt | weighed
  deriving DecidableEq, Repr

/-- Ask kinds (chapter 9.1). -/
inductive AskKind where
  | doorOpen | doorClose | dwell | dwellEnd | boardingOpen | boardingShut | zoneClear | windResume
  deriving DecidableEq, Repr

/-- Refusal reasons carried in a REPLY (R166). -/
inductive ReplyReason where
  | notInZone | tooLate | notApplicable | wind | wrongRole
  deriving DecidableEq, Repr

/-- Causes of DOOR_FAULT (R91), and DEPART_UNREADY (R84). -/
inductive DoorCause where
  | openLimit | closeLimit | latchLimit | obstruction | latchLost | departUnready
  deriving DecidableEq, Repr

/-- Ask entry states (chapter 9.1). -/
inductive AskState where
  | free | queued | waiting | answered | expired | failed
  deriving DecidableEq, Repr

/-- Where an ask came from (chapter 9.1). -/
inductive AskOrigin where
  | tap | fallback | key
  deriving DecidableEq, Repr

/-- Converter phases (R146 to R148). -/
inductive ConvPhase where
  | idle | zeroing | integrating | deintegrating
  deriving DecidableEq, Repr

/-- Converter modes (R144); mode none is `Option.none`. -/
inductive ConvMode where
  | load | wind
  deriving DecidableEq, Repr

/-- Polarity of a conversion (R147). -/
inductive Polarity where
  | positive | negative
  deriving DecidableEq, Repr

/-- Loader phases (R181). -/
inductive LoaderPhase where
  | reading | checking | done | fault
  deriving DecidableEq, Repr

/-- Causes in the start record (R181); the cause NONE is `noCause`. -/
inductive StartCause where
  | noCause | noMemory | busStuck | version | crc | rosterField | ownAbsent | roleCount | cabinIndex | rank
  | noMarker | range
  deriving DecidableEq, Repr

/-- Station modes (chapter 1.5). -/
inductive Mode where
  | loading | configFault | listening | joined | isolated | lockedOut
  deriving DecidableEq, Repr

/-- Frame kinds (R5). -/
inductive FrameKind where
  | mark | state | notice | ask | reply
  deriving DecidableEq, Repr

/-- Classes of the transmit queue, highest first (R18). -/
inductive FrameClass where
  | mark | reply | state | ask | essential | info
  deriving DecidableEq, Repr

/-- Door actions (chapter 5, R80). -/
inductive DoorAction where
  | idle | openMove | closeMove | latchWait | reverse | recloseWait
  deriving DecidableEq, Repr

/-- Source of an effective vote (R48). -/
inductive VoteSource where
  | heard | last | silence
  deriving DecidableEq, Repr

/-- The sixteen reasons, in the order of R46. -/
inductive Reason where
  | door | dwell | overload | weighFault | departUnready | zone | gate | windHold | windClear | windSensor | skew
  | driveFault | stopOverrun | brake | operatorStop | evac
  deriving DecidableEq, Repr

/-- The sixteen error flags, in the order of section 11.5. -/
inductive Flag where
  | crc | runtLong | format | excessAttempts | lateCollision | earlyMark | roundJump | roundLoss | stationSilent
  | stranger | replicaDiverge | agreeDiverge | skew | txqOverflow | captureFull | noTarget
  deriving DecidableEq, Repr

/-- The fourteen counters, in the order of section 11.6. -/
inductive Counter where
  | framesOk | crcErr | runt | long | formatErr | collisions | excessDrops | lateColl | earlyMarks | stale
  | stateLate | txDrops | captureDrops | askExpired
  deriving DecidableEq, Repr

/-- The nine keys a tap KEY transaction may name (12.3). -/
inductive Key where
  | stop | resume | evac | evacEnd | boardOpen | boardShut | dwell | dwellEnd | zoneClear
  deriving DecidableEq, Repr

/-- One bit time as the transceiver reports it (R3). -/
inductive LineBit where
  | zero | one | contended
  deriving DecidableEq, Repr

namespace Level

/-- Level codes of section 12.5; also the rank from most to least restrictive. -/
def toNat : Level → Nat
  | .stop => 0 | .creep => 1 | .cruise => 2 | .noLimit => 3

/-- The code byte of a level. -/
def code (l : Level) : Byte := BitVec.ofNat 8 l.toNat

/-- The level a code names, if it names one. -/
def ofCode (b : Byte) : Option Level :=
  match b.toNat with
  | 0 => some .stop | 1 => some .creep | 2 => some .cruise | 3 => some .noLimit | _ => none

/-- The more restrictive of two levels (R46). -/
def min (a b : Level) : Level := if a.toNat ≤ b.toNat then a else b

end Level

/-- Role codes. -/
def Role.code : Role → Byte
  | .absent => 0 | .cabin => 1 | .platform => 2 | .drive => 3 | .mast => 4 | .console => 5

/-- The role a code names. -/
def Role.ofCode (b : Byte) : Option Role :=
  match b.toNat with
  | 0 => some .absent | 1 => some .cabin | 2 => some .platform | 3 => some .drive | 4 => some .mast
  | 5 => some .console | _ => none

/-- Phase codes. -/
def Phase.code : Phase → Byte
  | .away => 0 | .passing => 1 | .opening => 2 | .opened => 3 | .closing => 4 | .weighing => 5 | .ready => 6
  | .overloaded => 7 | .doorFault => 8

/-- The phase a code names. -/
def Phase.ofCode (b : Byte) : Option Phase :=
  match b.toNat with
  | 0 => some .away | 1 => some .passing | 2 => some .opening | 3 => some .opened | 4 => some .closing
  | 5 => some .weighing | 6 => some .ready | 7 => some .overloaded | 8 => some .doorFault | _ => none

/-- Last marker codes. -/
def Marker.code : Marker → Byte
  | .noMarker => 0 | .arrive => 1 | .turn => 2 | .close => 3 | .depart => 4

/-- The marker a code names. -/
def Marker.ofCode (b : Byte) : Option Marker :=
  match b.toNat with
  | 0 => some .noMarker | 1 => some .arrive | 2 => some .turn | 3 => some .close | 4 => some .depart | _ => none

/-- The markers CLOSE and DEPART count as after CLOSE (R81). -/
def Marker.afterClose : Marker → Bool
  | .close | .depart => true
  | .noMarker | .arrive | .turn => false

/-- Stage codes. -/
def Stage.code : Stage → Byte
  | .calm => 0 | .watch => 1 | .hold => 2 | .clear => 3 | .shut => 4

/-- The stage a code names. -/
def Stage.ofCode (b : Byte) : Option Stage :=
  match b.toNat with
  | 0 => some .calm | 1 => some .watch | 2 => some .hold | 3 => some .clear | 4 => some .shut | _ => none

/-- Drive state codes. -/
def DriveState.code : DriveState → Byte
  | .braked => 0 | .releasing => 1 | .moving => 2 | .stopping => 3 | .faulted => 4

/-- Arrival mode codes. -/
def ArrivalMode.code : ArrivalMode → Byte
  | .normal => 0 | .exitOnly => 1 | .pass => 2

/-- The arrival mode a notice value names. -/
def ArrivalMode.ofValue (n : Nat) : Option ArrivalMode :=
  match n with
  | 0 => some .normal | 1 => some .exitOnly | 2 => some .pass | _ => none

/-- Segment codes. -/
def Segment.code : Segment → Byte
  | .exit => 0 | .entry => 1 | .closing => 2

/-- Gate codes of the GATE_FAULT notice. -/
def GateId.code : GateId → Byte
  | .exit => 0 | .entry => 1

/-- Gate state codes. -/
def GateState.code : GateState → Byte
  | .closed => 0 | .opening => 1 | .opened => 2 | .closing => 3 | .faulted => 4

/-- Zone fault kind codes (0 is NONE). -/
def ZoneFaultKind.code : ZoneFaultKind → Byte
  | .order => 1 | .index => 2 | .phase => 3

/-- Notice kind codes. -/
def NoticeKind.code : NoticeKind → Byte
  | .arrive => 1 | .turn => 2 | .close => 3 | .depart => 4 | .cabinCall => 5 | .doorFault => 6 | .windStage => 7
  | .driveFault => 8 | .zoneFault => 9 | .gateFault => 10 | .dwellExpired => 11 | .countDoubt => 12 | .weighed => 13

/-- The notice kind a code names. -/
def NoticeKind.ofCode (b : Byte) : Option NoticeKind :=
  match b.toNat with
  | 1 => some .arrive | 2 => some .turn | 3 => some .close | 4 => some .depart | 5 => some .cabinCall
  | 6 => some .doorFault | 7 => some .windStage | 8 => some .driveFault | 9 => some .zoneFault | 10 => some .gateFault
  | 11 => some .dwellExpired | 12 => some .countDoubt | 13 => some .weighed | _ => none

/-- The class of a notice, fixed by its kind (R167). -/
def NoticeKind.cls : NoticeKind → FrameClass
  | .dwellExpired | .countDoubt | .weighed => .info
  | .arrive | .turn | .close | .depart | .cabinCall | .doorFault | .windStage | .driveFault | .zoneFault
  | .gateFault => .essential

/-- Ask kind codes. -/
def AskKind.code : AskKind → Byte
  | .doorOpen => 1 | .doorClose => 2 | .dwell => 3 | .dwellEnd => 4 | .boardingOpen => 5 | .boardingShut => 6
  | .zoneClear => 7 | .windResume => 8

/-- The ask kind a code names. -/
def AskKind.ofCode (b : Byte) : Option AskKind :=
  match b.toNat with
  | 1 => some .doorOpen | 2 => some .doorClose | 3 => some .dwell | 4 => some .dwellEnd | 5 => some .boardingOpen
  | 6 => some .boardingShut | 7 => some .zoneClear | 8 => some .windResume | _ => none

/-- Reply reason codes (0 is NONE). -/
def ReplyReason.code : ReplyReason → Byte
  | .notInZone => 1 | .tooLate => 2 | .notApplicable => 3 | .wind => 4 | .wrongRole => 5

/-- The reason a code names; NONE names no reason (log 24). -/
def ReplyReason.ofCode (b : Byte) : Option ReplyReason :=
  match b.toNat with
  | 1 => some .notInZone | 2 => some .tooLate | 3 => some .notApplicable | 4 => some .wind | 5 => some .wrongRole
  | _ => none

/-- Door fault cause codes. -/
def DoorCause.code : DoorCause → Byte
  | .openLimit => 1 | .closeLimit => 2 | .latchLimit => 3 | .obstruction => 4 | .latchLost => 5 | .departUnready => 6

/-- Ask entry state codes. -/
def AskState.code : AskState → Byte
  | .free => 0 | .queued => 1 | .waiting => 2 | .answered => 3 | .expired => 4 | .failed => 5

/-- Ask origin codes. -/
def AskOrigin.code : AskOrigin → Byte
  | .tap => 0 | .fallback => 1 | .key => 2

/-- Converter phase codes. -/
def ConvPhase.code : ConvPhase → Byte
  | .idle => 0 | .zeroing => 1 | .integrating => 2 | .deintegrating => 3

/-- Converter mode codes (12.4; 0 is none). -/
def ConvMode.code : ConvMode → Byte
  | .load => 1 | .wind => 2

/-- Loader phase codes. -/
def LoaderPhase.code : LoaderPhase → Byte
  | .reading => 0 | .checking => 1 | .done => 2 | .fault => 3

/-- Start cause codes. -/
def StartCause.code : StartCause → Byte
  | .noCause => 0 | .noMemory => 1 | .busStuck => 2 | .version => 3 | .crc => 4 | .rosterField => 5 | .ownAbsent => 6
  | .roleCount => 7 | .cabinIndex => 8 | .rank => 9 | .noMarker => 10 | .range => 11

/-- Station mode codes. -/
def Mode.code : Mode → Byte
  | .loading => 0 | .configFault => 1 | .listening => 2 | .joined => 3 | .isolated => 4 | .lockedOut => 5

/-- The modes in which the station receives, takes inputs and runs its blocks: every mode but LOADING and
CONFIG_FAULT (1.2, R175). -/
def Mode.receiving : Mode → Bool
  | .loading | .configFault => false
  | .listening | .joined | .isolated | .lockedOut => true

/-- Frame kind codes (R199). -/
def FrameKind.code : FrameKind → Byte
  | .mark => 1 | .state => 2 | .notice => 3 | .ask => 4 | .reply => 5

/-- Frame class codes (R199), which are also the order of R18 from the highest class down. -/
def FrameClass.toNat : FrameClass → Nat
  | .mark => 1 | .reply => 2 | .state => 3 | .ask => 4 | .essential => 5 | .info => 6

/-- The code of a class. -/
def FrameClass.code (c : FrameClass) : Byte := BitVec.ofNat 8 c.toNat

/-- The kind of frame that a class belongs to (R5). -/
def FrameClass.kind : FrameClass → FrameKind
  | .mark => .mark | .reply => .reply | .state => .state | .ask => .ask | .essential | .info => .notice

/-- The bit of a reason (12.5). -/
def Reason.bit : Reason → Nat
  | .door => 0 | .dwell => 1 | .overload => 2 | .weighFault => 3 | .departUnready => 4 | .zone => 5 | .gate => 6
  | .windHold => 7 | .windClear => 8 | .windSensor => 9 | .skew => 10 | .driveFault => 11 | .stopOverrun => 12
  | .brake => 13 | .operatorStop => 14 | .evac => 15

/-- The one-member reasons set of a reason. -/
def Reason.mask (r : Reason) : Word := BitVec.ofNat 16 (2 ^ r.bit)

/-- The bit of an error flag (12.4). -/
def Flag.bit : Flag → Nat
  | .crc => 0 | .runtLong => 1 | .format => 2 | .excessAttempts => 3 | .lateCollision => 4 | .earlyMark => 5
  | .roundJump => 6 | .roundLoss => 7 | .stationSilent => 8 | .stranger => 9 | .replicaDiverge => 10
  | .agreeDiverge => 11 | .skew => 12 | .txqOverflow => 13 | .captureFull => 14 | .noTarget => 15

/-- The one-member flag set of a flag. -/
def Flag.mask (f : Flag) : Word := BitVec.ofNat 16 (2 ^ f.bit)

/-- The place of a counter in the order of section 11.6. -/
def Counter.index : Counter → Nat
  | .framesOk => 0 | .crcErr => 1 | .runt => 2 | .long => 3 | .formatErr => 4 | .collisions => 5 | .excessDrops => 6
  | .lateColl => 7 | .earlyMarks => 8 | .stale => 9 | .stateLate => 10 | .txDrops => 11 | .captureDrops => 12
  | .askExpired => 13

/-- The one-member counter set of a counter, as the counter detail of the CAUSES area (12.4). -/
def Counter.mask (c : Counter) : Word := BitVec.ofNat 16 (2 ^ c.index)

/-- The key a code names (12.3). -/
def Key.ofCode (b : Byte) : Option Key :=
  match b.toNat with
  | 1 => some .stop | 2 => some .resume | 3 => some .evac | 4 => some .evacEnd | 5 => some .boardOpen
  | 6 => some .boardShut | 7 => some .dwell | 8 => some .dwellEnd | 9 => some .zoneClear | _ => none

/-- A level, flag or mark as one byte, 01h for set. -/
def bitByte (b : Bool) : Byte := if b then 1 else 0

/-- The high and the low byte of a two-byte number, high first (chapter 12). -/
def twoBytes (n : Nat) : List Byte := [BitVec.ofNat 8 (n / 256), BitVec.ofNat 8 n]

/-- A two-byte number read high byte first. -/
def ofTwoBytes (hi lo : Byte) : Nat := hi.toNat * 256 + lo.toNat

/-- Microseconds in `n` milliseconds. -/
def ms (n : Nat) : Nat := n * 1000

/-- Microseconds in `n` seconds. -/
def sec (n : Nat) : Nat := n * 1000000

end Sys2Proof
end

