-- ==== Sys2Proof/Syntax.lean ====
section
/-! DEFINITION. The commands: one constructor of `Instr` per row of spec/opcode_table.json. The table gives no operands;
the ones here say what the outside world brings to the event (log 1, 5, 9). -/

namespace Sys2Proof

/-- What a configuration read try finds on CFG_SDA (R176): the four bytes the part sends as they read back, each with its
eight data bits and its acknowledge bit in bit 0, and the bytes the memory sends. -/
structure ReadTry where
  writeAddress : BitVec 9
  memoryHigh : BitVec 9
  memoryLow : BitVec 9
  readAddress : BitVec 9
  bytes : List Byte
  deriving DecidableEq, Repr

/-- The commands of the block. -/
inductive Instr where
  /-- START_RESET (R174): power-up, or RESET_N held low. -/
  | startReset
  /-- RESET_RELEASE (R174): the strap pins as they stand, and how many clock pulses CFG_SDA needs before it reads high
  (R176; more than nine: it stays low). -/
  | resetRelease (straps : BitVec 6) (sdaPulses : Nat)
  /-- CONFIG_READ_TRY_END (R176): the transfer as it read back. -/
  | configReadTryEnd (transfer : ReadTry)
  /-- CONFIG_RETRY_WAIT_EXPIRY (R176): the next try begins; `sdaPulses` as for RESET_RELEASE. -/
  | configRetryWaitExpiry (sdaPulses : Nat)
  /-- FRAME_RECEPTION (R12): the bit times heard, from the first start bit to the last bit driven (R3, R4). -/
  | frameReception (bits : List LineBit)
  /-- STATION_SILENT_ENTRY (R40) for one station number. -/
  | stationSilentEntry (station : Fin 64)
  /-- JOIN (R42). -/
  | join
  /-- RELEASE_CONFIRMED (R56). -/
  | releaseConfirmed
  /-- ASK_EXPIRY (R160) of one ask entry. -/
  | askExpiry (entry : Fin 4)
  /-- FALLBACK_ASK (R120) for the zone entry at a place of the queue. -/
  | fallbackAsk (place : Fin 3)
  /-- DEPARTURE_UNREADY (R111) of a watched cabin index. -/
  | departureUnready (cabin : Fin 48)
  /-- DEPART_MARK_COUNT_END (R85). -/
  | departMarkCountEnd
  /-- ISOLATION_END (R24). -/
  | isolationEnd
  /-- TRANSMIT_ATTEMPT_START (R18). -/
  | transmitAttemptStart
  /-- COLLISION (R19): the bit times of the attempt as they read back, from its first to the one that differs (R3). -/
  | collision (readBack : List LineBit)
  /-- EXCESS_ATTEMPTS_DISCARD (R20). -/
  | excessAttemptsDiscard
  /-- LATE_COLLISION (R21): the bit times of the attempt as they read back, from its first to the one that differs. -/
  | lateCollision (readBack : List LineBit)
  /-- BACKOFF_EXPIRY (R19) of the queue entry at a place. -/
  | backoffExpiry (place : Fin 8)
  /-- STATE_STAGGER_EXPIRY (R38). -/
  | stateStaggerExpiry
  /-- TRANSMISSION_SUCCESS (R22): the bit times of the attempt as they read back, to the last bit of the CRC; with none given,
  none has been read back. -/
  | transmissionSuccess (readBack : List LineBit := [])
  /-- ISOLATION_ENTRY (R23). -/
  | isolationEntry
  /-- ISOLATION_PERIOD_EXPIRY (R24). -/
  | isolationPeriodExpiry
  /-- EARLY_MARK_WINDOW_END (R26). -/
  | earlyMarkWindowEnd
  /-- MARK_OFFER_TIME (R27). -/
  | markOfferTime
  /-- ROUND_LOSS (R44). -/
  | roundLoss
  /-- FOUNDING (R43). -/
  | founding
  /-- DRIVE_FAULT_ACTIVE (R61). -/
  | driveFaultActive
  /-- DRIVE_FAULT_INACTIVE (R63). -/
  | driveFaultInactive
  /-- BRAKE_RELEASED_ACTIVE (R57). -/
  | brakeReleasedActive
  /-- BRAKE_RELEASED_INACTIVE (R58). -/
  | brakeReleasedInactive
  /-- STATIONARY_ACTIVE (R59). -/
  | stationaryActive
  /-- STATIONARY_INACTIVE (R63). -/
  | stationaryInactive
  /-- RELEASE_TIMER_EXPIRY (R57). -/
  | releaseTimerExpiry
  /-- STOP_TIMER_EXPIRY (R59). -/
  | stopTimerExpiry
  /-- BRAKE_CHECK_TIMER_EXPIRY (R62). -/
  | brakeCheckTimerExpiry
  /-- FAULT_CLEAR_TIMER_EXPIRY (R63). -/
  | faultClearTimerExpiry
  /-- OPEN_END_ACTIVE (R86): `level` true is the row's event; false is the same input's return, which has no row and no
  effect but its level (R86, log 5). -/
  | openEndActive (level : Bool)
  /-- CLOSED_END_ACTIVE (R87). -/
  | closedEndActive
  /-- CLOSED_END_INACTIVE (R88). -/
  | closedEndInactive
  /-- LATCHED_ACTIVE (R88). -/
  | latchedActive
  /-- LATCHED_INACTIVE (R90). -/
  | latchedInactive
  /-- OBSTRUCTION_ACTIVE (R89): `level` as for OPEN_END_ACTIVE. -/
  | obstructionActive (level : Bool)
  /-- OPEN_LIMIT_EXPIRY (R86). -/
  | openLimitExpiry
  /-- CLOSE_LIMIT_EXPIRY (R87). -/
  | closeLimitExpiry
  /-- LATCH_LIMIT_EXPIRY (R88). -/
  | latchLimitExpiry
  /-- RECLOSE_DELAY_EXPIRY (R89). -/
  | recloseDelayExpiry
  /-- WEIGHING_LIMIT_EXPIRY (R93). -/
  | weighingLimitExpiry
  /-- DWELL_TIMER_EXPIRY (R100). -/
  | dwellTimerExpiry
  /-- CALL_KEY_ACTIVE (R101). -/
  | callKeyActive
  /-- MK_ARRIVE (R106): IDX5..IDX0 and IDX_VALID as read at the same moment (R105). -/
  | mkArrive (index : BitVec 6) (valid : Bool)
  /-- MK_TURN (R108). -/
  | mkTurn
  /-- MK_CLOSE (R109). -/
  | mkClose
  /-- MK_DEPART (R110). -/
  | mkDepart
  /-- BEAM_CROSSING (R113). -/
  | beamCrossing (beam : Beam)
  /-- GATE_POSITION_CHANGE (R115): a gate's CLOSED input changes to `closed`. -/
  | gatePositionChange (gate : GateId) (closed : Bool)
  /-- GATE_TRAVEL_EXPIRY (R115). -/
  | gateTravelExpiry (gate : GateId)
  /-- KEY_BOARD_OPEN (R116). -/
  | keyBoardOpen
  /-- KEY_BOARD_SHUT (R116). -/
  | keyBoardShut
  /-- KEY_STOP of the platform (R123). -/
  | keyStop
  /-- KEY_RESUME of the platform (R123). -/
  | keyResume
  /-- KEY_DWELL (R123). -/
  | keyDwell
  /-- KEY_DWELL_END (R123). -/
  | keyDwellEnd
  /-- KEY_ZONE_CLEAR (R123). -/
  | keyZoneClear
  /-- CONSOLE_KEY_STOP (R169). -/
  | consoleKeyStop
  /-- CONSOLE_KEY_RESUME (R169). -/
  | consoleKeyResume
  /-- KEY_EVAC (R169). -/
  | keyEvac
  /-- KEY_EVAC_END (R169). -/
  | keyEvacEnd
  /-- WIND_TICK (R127). -/
  | windTick
  /-- SENSOR_FAULT_CLEAR (R130). -/
  | sensorFaultClear
  /-- SLICE_COMPLETION (R132). -/
  | sliceCompletion
  /-- WATCH_CALM_COMPLETE (R134). -/
  | watchCalmComplete
  /-- RELEASE_COUNT_COMPLETE (R136). -/
  | releaseCountComplete
  /-- CLEAR_WAIT_PASSED (R135). -/
  | clearWaitPassed
  /-- ZEROING_END (R146). -/
  | zeroingEnd
  /-- INTEGRATING_END (R147): the mean differential input over the integrating time, in microvolts (R145, log 9). -/
  | integratingEnd (microvolts : Int)
  /-- ZERO_CROSSING_LATCH (R150). -/
  | zeroCrossingLatch
  /-- OVERRANGE_LATCH (R149). -/
  | overrangeLatch
  /-- READ_RECORD (R186). -/
  | readRecord (area index : Byte)
  /-- READ_CLEAR (R187). -/
  | readClear (area : Byte)
  /-- RELEASE (R192). -/
  | release (count : Byte)
  /-- ASK (R188). -/
  | ask (kind target : Byte) (argument : Word)
  /-- KEY (R170). -/
  | key (code : Byte)
  /-- SET_MASK (R189): the three argument bytes (R201). -/
  | setMask (flags : BitVec 24)
  /-- SET_SELECTOR (R189). -/
  | setSelector (n kind sender subkind : Byte)
  /-- ANSWER_COMPLETE (R187). -/
  | answerComplete
  /-- SELECTION_END (R184). -/
  | selectionEnd
  /-- CAPTURE_COUNT_REACHED (R197). -/
  | captureCountReached
  /-- ATTENTION_TIMER_EXPIRY (R197). -/
  | attentionTimerExpiry
  /-- COUNTER_HALF_SCALE (R196) of one counter. -/
  | counterHalfScale (counter : Counter)
  /-- UNKNOWN_TRANSACTION_CODE (R185): the first byte received. -/
  | unknownTransactionCode (code : Byte)
  deriving DecidableEq, Repr

end Sys2Proof
end

