-- ==== Sys2Proof/Config.lean ====
section
/-! DEFINITION. What the configuration image fixes (R180, R182), the figures the spec fixes, and the codes that the spec
leaves open, as constants with no body. -/

namespace Sys2Proof

/-- The settings of the configuration image after the replacement of R180. Times in the units the image stores. -/
structure Settings where
  /-- round period in ms -/
  period : Nat
  attemptLimit : Nat
  silenceLimit : Nat
  silenceCabin : Level
  silencePlatform : Level
  silenceDrive : Level
  silenceMast : Level
  silenceConsole : Level
  releaseConfirm : Nat
  /-- seconds -/
  stopTimeout : Nat
  capacity : Nat
  /-- kilograms -/
  loadLimit : Nat
  watchGust : Nat
  watchHysteresis : Nat
  /-- seconds, as are the other times of the wind settings -/
  watchCalmTime : Nat
  holdGust : Nat
  holdSustained : Nat
  releaseGust : Nat
  releaseSustained : Nat
  releaseTime : Nat
  creepCeiling : Nat
  clearWait : Nat
  congestion : Nat
  attentionCount : Nat
  /-- marks -/
  attentionTimer : Nat
  deriving DecidableEq, Repr

/-- Every setting at its default (R180, R47, section 7.1). -/
def Settings.default : Settings where
  period := 250
  attemptLimit := 10
  silenceLimit := 3
  silenceCabin := .creep
  silencePlatform := .stop
  silenceDrive := .stop
  silenceMast := .stop
  silenceConsole := .noLimit
  releaseConfirm := 2
  stopTimeout := 20
  capacity := 25
  loadLimit := 2400
  watchGust := 120
  watchHysteresis := 20
  watchCalmTime := 60
  holdGust := 180
  holdSustained := 140
  releaseGust := 150
  releaseSustained := 110
  releaseTime := 300
  creepCeiling := 220
  clearWait := 600
  congestion := 4
  attentionCount := 8
  attentionTimer := 4

/-- The silence vote of a role (R47). ABSENT stations are not expected and cast none; STOP stands there unread. -/
def Settings.silenceVote (g : Settings) : Role → Level
  | .cabin => g.silenceCabin
  | .platform => g.silencePlatform
  | .drive => g.silenceDrive
  | .mast => g.silenceMast
  | .console => g.silenceConsole
  | .absent => .stop

/-- The round period in microseconds. -/
def Settings.periodTime (g : Settings) : Nat := ms g.period

namespace Config

/-- FREE VALUE (log 12): the tap's code byte of a door action, which section 12.5 does not list. -/
opaque doorActionCode : DoorAction → Byte

/-- FREE VALUE (log 12): the tap's code byte of the source of an effective vote, which section 12.5 does not list. -/
opaque voteSourceCode : VoteSource → Byte

/-- FREE VALUE (log 12): the tap's code byte of a fallback (0 NONE, 1 DUE, 2 PENDING, 3 USED as argument, in the order of
R104), which section 12.5 does not list. -/
opaque fallbackCode : Fin 4 → Byte

/-- FREE VALUE (log 12): the tap's code byte of the boarding state (`true` is OPEN), which section 12.5 does not list. -/
opaque boardingStateCode : Bool → Byte

end Config

end Sys2Proof
end

