-- ==== Sys2Proof/Machine/State.lean ====
section
/-! DEFINITION. The state of one WS64 station, every block's own part of it, as plain data, and the state that a start
reset leaves. Times are in microseconds; a running timer holds the time left, a stopped one is `none` (log 2). -/

namespace Sys2Proof.Machine

/-- No command of the spec stops the part: it names no event after which the machine ends, so no meaning raises a fault.
Safe: there is nothing a claim could lean on. -/
inductive Fault where
  deriving DecidableEq, Repr

/-- Why a command has no outcome. -/
inductive Refusal where
  /-- Raised by an arm of `exec` whose command has no meaning yet. No arm raises it now. Safe: the model stops. -/
  | notModelled (mnemonic : String)
  deriving DecidableEq, Repr

/-- The start record, the image buffer and the wait between tries (R176, R181). -/
structure Loader where
  phase : LoaderPhase
  tries : Nat
  version : Option Byte
  cause : StartCause
  detail : Nat
  image : List Byte
  retryWait : Option Nat
  deriving DecidableEq, Repr

/-- Vote, reasons and role body as a STATE carries them: the vote as its code, the role's fields as their bytes from
body offset 5 on (R35, R199). -/
structure Statement where
  vote : Byte
  reasons : Word
  role : Role
  fields : List Byte
  deriving DecidableEq, Repr

/-- A STATE as a slot of the heard table holds it (section 2.3). -/
structure HeardState where
  body : Statement
  congested : Bool
  deriving DecidableEq, Repr

/-- One side of the heard table (section 2.3). -/
structure HeardSide where
  round : Byte
  slots : List (Option HeardState)
  deriving DecidableEq, Repr

/-- The published side of the own STATE (R37). -/
structure Published where
  body : Statement
  congested : Bool
  round : Byte
  deriving DecidableEq, Repr

/-- One roster entry: configured and live fields (R39). -/
structure RosterEntry where
  role : Role
  cabin : Option Nat
  rank : Option Nat
  silentCount : Nat
  silent : Bool
  last : Option Statement
  deriving DecidableEq, Repr

/-- The entry of a station that is not on the wheel. -/
def RosterEntry.absent : RosterEntry := ⟨.absent, none, none, 0, false, none⟩

/-- What R13 does to an entry once the attempt that was running when it was replaced or removed has ended. -/
inductive AfterAttempt where
  | keep
  | replace (body : List Byte) (stagger : Option Nat)
  | remove
  deriving DecidableEq, Repr

/-- An attempt in progress: the frame's bytes from the sync byte on, and the bit times already sent (R18, R19). -/
structure Attempt where
  frame : List Byte
  elapsed : Nat
  after : AfterAttempt
  deriving DecidableEq, Repr

/-- One entry of the transmit queue (section 1.3). The list order is the order of arrival. -/
structure TxEntry where
  cls : FrameClass
  body : List Byte
  attempts : Nat
  backoff : Option Nat
  stagger : Option Nat
  attempt : Option Attempt
  deriving DecidableEq, Repr

/-- The Line Controller (chapter 1). -/
structure Line where
  queue : List TxEntry
  prng : Word
  isoScore : Nat
  isoCount : Nat
  isoTimer : Option Nat
  peersCongested : Bool
  returning : Bool
  idle : Nat
  markWaiting : Bool
  deriving DecidableEq, Repr

/-- The Round Controller (chapter 2). -/
structure Round where
  number : Byte
  timer : Nat
  current : HeardSide
  frozen : HeardSide
  working : Statement
  published : Option Published
  marksTaken : Nat
  firstMark : Bool
  roundLost : Bool
  markOffered : Bool
  deriving DecidableEq, Repr

/-- One entry of the holders list (R50). -/
structure Holder where
  station : Nat
  source : VoteSource
  reasons : Word
  silent : Bool
  deriving DecidableEq, Repr

/-- The agreement record (chapter 3). -/
structure Agreement where
  level : Level
  roundClosed : Option Byte
  holders : List Holder
  reasons : Word
  silentReason : Bool
  skew : Bool
  deriving DecidableEq, Repr

/-- The drive record (section 3.4); `skewFound` is what R64 calls skew found at the last mark taken. -/
structure Drive where
  state : DriveState
  target : Level
  demand : Level
  confirm : Nat
  reasons : Word
  releaseTimer : Option Nat
  stopTimer : Option Nat
  faultClearTimer : Option Nat
  brakeCheckTimer : Option Nat
  skewFound : Bool
  deriving DecidableEq, Repr

/-- One cabin record (R66). An occupancy of `none` is UNKNOWN. -/
structure CabinRecord where
  owner : Option Nat
  phase : Phase
  marker : Marker
  occupancy : Option Nat
  load : Option Nat
  latched : Bool
  dwell : Bool
  vote : Level
  lastRound : Option Byte
  freshness : Nat
  deriving DecidableEq, Repr

/-- The Cabin Replica (chapter 4). -/
structure Replica where
  records : List CabinRecord
  divergence : Bool
  deriving DecidableEq, Repr

/-- The Cabin Sequencer (chapter 5). -/
structure Cabin where
  phase : Phase
  marker : Marker
  occupancy : Option Nat
  load : Option Nat
  dwell : Bool
  departPending : Bool
  departCount : Nat
  departCounting : Bool
  action : DoorAction
  attempts : Nat
  awaiting : Bool
  weighFault : Bool
  openLimit : Option Nat
  closeLimit : Option Nat
  latchLimit : Option Nat
  recloseDelay : Option Nat
  weighLimit : Option Nat
  dwellTimer : Option Nat
  deriving DecidableEq, Repr

/-- The fallback of a zone entry (R104); PENDING keeps its ask kind and the ask entry that carries it (log 14). -/
inductive Fallback where
  | unused
  | due
  | pending (kind : AskKind) (entry : Nat)
  | used
  deriving DecidableEq, Repr

/-- One zone entry (R104); `choiceDue` is the model's own trigger of R120 (log 25). -/
structure ZoneEntry where
  cabin : Nat
  owner : Nat
  segment : Segment
  mode : ArrivalMode
  aboard : Option Nat
  alighted : Nat
  boarded : Nat
  closedByAsk : Bool
  openedByAsk : Bool
  settle : Bool
  mismatch : Nat
  fallback : Fallback
  choiceDue : Bool
  deriving DecidableEq, Repr

/-- One member of the departure watch (R110, R111). -/
structure Watched where
  cabin : Nat
  marks : Nat
  unready : Bool
  deriving DecidableEq, Repr

/-- One gate (R114, R115). -/
structure Gate where
  commandOpen : Bool
  fault : Bool
  timer : Option Nat
  deriving DecidableEq, Repr

/-- The Platform Sequencer (chapter 6); `phaseFresh` is the model's own (log 25). -/
structure Platform where
  zone : List ZoneEntry
  watch : List Watched
  boardingState : Bool
  boardingOpen : Bool
  unloading : Bool
  exitGate : Gate
  entryGate : Gate
  orderFault : Bool
  indexFault : Bool
  phaseFault : Bool
  phaseFresh : Bool
  stopFlag : Bool
  rebuildPending : Bool
  deriving DecidableEq, Repr

/-- The result record of the converter (R145). -/
structure Result where
  count : Nat
  polarity : Polarity
  overrange : Bool
  mode : ConvMode
  sequence : Byte
  deriving DecidableEq, Repr

/-- The Wind Monitor (chapter 7). -/
structure Wind where
  tick : Option Nat
  pending : Option Result
  last : Option Nat
  miss : Nat
  sensorFault : Bool
  good : Nat
  ring : List Nat
  gust : Option Nat
  accSum : Nat
  accCount : Nat
  slices : List Nat
  sustained : Option Nat
  stage : Stage
  watchCalm : Nat
  release : Nat
  clearWait : Nat
  clearPassed : Bool
  deriving DecidableEq, Repr

/-- The Integrating Converter (chapter 8). -/
structure Converter where
  phase : ConvPhase
  mode : Option ConvMode
  timer : Option Nat
  integrator : Int
  deint : Nat
  polarity : Option Polarity
  record : Option Result
  sequence : Byte
  reading : Bool
  stale : Bool
  deriving DecidableEq, Repr

/-- One ask entry (section 9.1). -/
structure AskEntry where
  state : AskState
  origin : AskOrigin
  kind : AskKind
  target : Nat
  argument : Word
  tag : Nat
  marks : Nat
  accepted : Option Bool
  reason : Option ReplyReason
  deriving DecidableEq, Repr

/-- A FREE entry of the Ask Table. -/
def AskEntry.blank : AskEntry := ⟨.free, .tap, .doorOpen, 0, 0, 0, 0, none, none⟩

/-- The Ask Table (chapter 9). -/
structure AskTable where
  entries : List AskEntry
  tagCounter : Nat
  lateReply : Nat
  deriving DecidableEq, Repr

/-- The console key handling (section 9.4). -/
structure Console where
  stop : Bool
  evac : Bool
  deriving DecidableEq, Repr

/-- The four attention causes (R197). -/
structure Causes where
  captureCount : Bool
  captureTimer : Bool
  flag : Bool
  counter : Bool
  deriving DecidableEq, Repr

/-- No cause. -/
def Causes.empty : Causes := ⟨false, false, false, false⟩

/-- Phases of a tap transaction (R184). -/
inductive TapPhase where
  | idle | receiving | answering | done
  deriving DecidableEq, Repr

/-- What the end of the answer in progress does (R154, R186, R187). -/
inductive TapEnd where
  | nothing
  | status (shown : Word)
  | counters (shown : List Nat)
  | causes (shown : Causes) (count : Nat)
  | converter (present : Bool)
  | asks (late : Nat)
  deriving DecidableEq, Repr

/-- The Tap Port (R184). -/
structure Tap where
  phase : TapPhase
  code : Byte
  args : List Byte
  answer : List Byte
  pendingEnd : TapEnd
  renewedFlags : Word
  renewedCauses : Causes
  deriving DecidableEq, Repr

/-- One capture (R190); its length field is the length of `body`. -/
structure Capture where
  sequence : Word
  round : Byte
  header : Byte
  sender : Byte
  own : Bool
  body : List Byte
  deriving DecidableEq, Repr

/-- One capture slot with its owner mark: `reader` set is READER, clear is DEVICE (R190). -/
structure Slot where
  reader : Bool
  capture : Capture
  deriving DecidableEq, Repr

/-- A slot never written. -/
def Slot.blank : Slot := ⟨false, ⟨0, 0, 0, 0, false, []⟩⟩

/-- A capture selector in use (R191); `none` is ANY. -/
structure Selector where
  kind : Option FrameKind
  sender : Option Nat
  subkind : Option Nat
  deriving DecidableEq, Repr

/-- The Capture Store (section 11.4). -/
structure CaptureStore where
  slots : List Slot
  writePlace : Nat
  releasePlace : Nat
  sequence : Word
  selectors : List (Option Selector)
  on : Bool
  congested : Bool
  deriving DecidableEq, Repr

/-- The Status Unit (sections 11.5 to 11.7); `fresh` and `halfDue` are the model's own (log 25). -/
structure Status where
  flags : Word
  fresh : Word
  mask : Word
  counters : List Nat
  halfDue : Word
  causes : Causes
  flagDetail : Word
  counterDetail : Word
  newCaptures : Nat
  attnTimer : Option Nat
  deriving DecidableEq, Repr

/-- The state of the station; `filter` holds, for each field input, the time until a further change of it can have been
steady for 5 ms (R2, log 5). -/
structure State where
  fi : BitVec 24
  filter : List Nat
  resetHeld : Bool
  pending : List Instr
  mode : Mode
  station : Nat
  loader : Loader
  settings : Settings
  roster : List RosterEntry
  line : Line
  round : Round
  agreement : Agreement
  drive : Drive
  replica : Replica
  cabin : Cabin
  platform : Platform
  wind : Wind
  conv : Converter
  asks : AskTable
  console : Console
  tap : Tap
  capture : CaptureStore
  status : Status
  deriving DecidableEq, Repr

/-- An empty side of the heard table (R34). -/
def HeardSide.open (round : Byte) : HeardSide := ⟨round, List.replicate 64 none⟩

/-- A record as start reset leaves it, until the image names its owner (R78). -/
def CabinRecord.blank : CabinRecord := ⟨none, .away, .noMarker, none, none, false, false, .stop, none, 0⟩

/-- The record of a cabin index that no roster entry carries, once the image has been taken (R66). -/
def CabinRecord.unused : CabinRecord := ⟨none, .away, .noMarker, some 0, none, false, false, .stop, none, 0⟩

/-- A configured record with its start values and its owner (R78). -/
def CabinRecord.start (owner : Nat) : CabinRecord := { CabinRecord.blank with owner := some owner }

/-- R181: the start record at start reset. -/
def Loader.reset : Loader := ⟨.reading, 1, none, .noCause, 0, List.replicate 256 0, none⟩

/-- R25. The seed is set when the straps are read; before that log 4 names it. -/
def Line.reset : Line := ⟨[], 1, 0, 0, none, false, false, 0, false⟩

/-- R45. -/
def Round.reset : Round where
  number := 0
  timer := 0
  current := HeardSide.open 0
  frozen := HeardSide.open 0
  working := ⟨0, 0, .absent, []⟩
  published := none
  marksTaken := 0
  firstMark := true
  roundLost := false
  markOffered := false

/-- R51. -/
def Agreement.reset : Agreement := ⟨.stop, none, [], 0, false, false⟩

/-- R65. -/
def Drive.reset : Drive := ⟨.braked, .stop, .stop, 0, 0, none, none, none, none, false⟩

/-- R78: every record at its start values; which of them are configured the image says. -/
def Replica.reset : Replica := ⟨List.replicate 48 CabinRecord.blank, false⟩

/-- R102. -/
def Cabin.reset : Cabin where
  phase := .away
  marker := .noMarker
  occupancy := none
  load := none
  dwell := false
  departPending := false
  departCount := 0
  departCounting := false
  action := .idle
  attempts := 0
  awaiting := false
  weighFault := false
  openLimit := none
  closeLimit := none
  latchLimit := none
  recloseDelay := none
  weighLimit := none
  dwellTimer := none

/-- R126: commanded CLOSED, no fault, timer stopped. -/
def Gate.reset : Gate := ⟨false, false, none⟩

/-- R126. -/
def Platform.reset : Platform where
  zone := []
  watch := []
  boardingState := false
  boardingOpen := false
  unloading := false
  exitGate := Gate.reset
  entryGate := Gate.reset
  orderFault := false
  indexFault := false
  phaseFault := false
  phaseFresh := false
  stopFlag := false
  rebuildPending := true

/-- R143. -/
def Wind.reset : Wind where
  tick := none
  pending := none
  last := none
  miss := 0
  sensorFault := false
  good := 0
  ring := []
  gust := none
  accSum := 0
  accCount := 0
  slices := []
  sustained := none
  stage := .hold
  watchCalm := 0
  release := 0
  clearWait := 0
  clearPassed := false

/-- R156. -/
def Converter.reset : Converter := ⟨.idle, none, none, 0, 0, none, none, 0, false, false⟩

/-- R163. -/
def AskTable.reset : AskTable := ⟨List.replicate 4 AskEntry.blank, 0, 0⟩

/-- R198. -/
def Tap.reset : Tap := ⟨.idle, 0, [], [], .nothing, 0, Causes.empty⟩

/-- R198. -/
def CaptureStore.reset : CaptureStore :=
  ⟨List.replicate 32 Slot.blank, 0, 0, 0, List.replicate 6 none, false, false⟩

/-- R198. -/
def Status.reset : Status :=
  ⟨0, 0, 0, List.replicate 14 0, 0, Causes.empty, 0, 0, 0, none⟩

/-- The part right after a start reset, with RESET_N still low: every block at the start values of its chapter, every
input inactive (log 4). RESET_RELEASE goes on from here (R174). -/
def State.reset : State where
  fi := 0
  filter := List.replicate 24 0
  resetHeld := true
  pending := []
  mode := .loading
  station := 0
  loader := Loader.reset
  settings := Settings.default
  roster := List.replicate 64 RosterEntry.absent
  line := Line.reset
  round := Round.reset
  agreement := Agreement.reset
  drive := Drive.reset
  replica := Replica.reset
  cabin := Cabin.reset
  platform := Platform.reset
  wind := Wind.reset
  conv := Converter.reset
  asks := AskTable.reset
  console := ⟨false, false⟩
  tap := Tap.reset
  capture := CaptureStore.reset
  status := Status.reset

end Sys2Proof.Machine
end

