-- ==== Sys2Proof/Machine/Update.lean ====
section
/-! DEFINITION. One update per part of the state, so that every other definition says which block it writes. Their small
lemmas stand in Laws/State.lean. -/

namespace Sys2Proof.Machine

/-- Set the station mode (section 1.5). -/
def State.setMode (s : State) (m : Mode) : State := { s with mode := m }

/-- Set the level of one field input (R2). -/
def State.setFi (s : State) (n : Nat) (level : Bool) : State :=
  { s with fi := if level then s.fi ||| BitVec.ofNat 24 (2 ^ n) else s.fi &&& ~~~ BitVec.ofNat 24 (2 ^ n) }

/-- Set the time a field input has to go until a further change of it counts (R2, log 5). -/
def State.startFilter (s : State) (n t : Nat) : State := { s with filter := s.filter.set n t }

/-- Change the whole roster. -/
def State.modRoster (s : State) (f : List RosterEntry → List RosterEntry) : State := { s with roster := f s.roster }

/-- Change the `loader` part and nothing else. -/
def State.modLoader (s : State) (f : Loader → Loader) : State := { s with loader := f s.loader }

/-- Change the `settings` part and nothing else. -/
def State.modSettings (s : State) (f : Settings → Settings) : State := { s with settings := f s.settings }

/-- Change the `line` part and nothing else. -/
def State.modLine (s : State) (f : Line → Line) : State := { s with line := f s.line }

/-- Change the `round` part and nothing else. -/
def State.modRound (s : State) (f : Round → Round) : State := { s with round := f s.round }

/-- Change the `agreement` part and nothing else. -/
def State.modAgreement (s : State) (f : Agreement → Agreement) : State := { s with agreement := f s.agreement }

/-- Change the `drive` part and nothing else. -/
def State.modDrive (s : State) (f : Drive → Drive) : State := { s with drive := f s.drive }

/-- Change the `replica` part and nothing else. -/
def State.modReplica (s : State) (f : Replica → Replica) : State := { s with replica := f s.replica }

/-- Change the `cabin` part and nothing else. -/
def State.modCabin (s : State) (f : Cabin → Cabin) : State := { s with cabin := f s.cabin }

/-- Change the `platform` part and nothing else. -/
def State.modPlatform (s : State) (f : Platform → Platform) : State := { s with platform := f s.platform }

/-- Change the `wind` part and nothing else. -/
def State.modWind (s : State) (f : Wind → Wind) : State := { s with wind := f s.wind }

/-- Change the `conv` part and nothing else. -/
def State.modConv (s : State) (f : Converter → Converter) : State := { s with conv := f s.conv }

/-- Change the `asks` part and nothing else. -/
def State.modAsks (s : State) (f : AskTable → AskTable) : State := { s with asks := f s.asks }

/-- Change the `console` part and nothing else. -/
def State.modConsole (s : State) (f : Console → Console) : State := { s with console := f s.console }

/-- Change the `tap` part and nothing else. -/
def State.modTap (s : State) (f : Tap → Tap) : State := { s with tap := f s.tap }

/-- Change the `capture` part and nothing else. -/
def State.modCapture (s : State) (f : CaptureStore → CaptureStore) : State := { s with capture := f s.capture }

/-- Change the `status` part and nothing else. -/
def State.modStatus (s : State) (f : Status → Status) : State := { s with status := f s.status }

end Sys2Proof.Machine
end

