-- ==== Sys2Proof/Machine/Flags.lean ====
section
/-! DEFINITION. The Status Unit: error flags, counters, attention causes, FAULT_N and ATTN (sections 11.5 to 11.7). -/

namespace Sys2Proof.Machine

/-- Every flag there is. -/
def allFlags : Word := 0xFFFF

/-- Whether a flag is set. -/
def State.flag (s : State) (f : Flag) : Bool := s.status.flags &&& f.mask != 0

/-- The value of a counter (R196). -/
def State.counter (s : State) (c : Counter) : Nat := s.status.counters.getD c.index 0

/-- Latch the FLAG cause for a flag set, with its detail, and renew it for a clearing in progress (R187, R197). -/
def Status.latchFlag (f : Flag) (u : Status) : Status :=
  { u with causes := { u.causes with flag := true }, flagDetail := u.flagDetail ||| f.mask }

/-- Put a flag among those that are set, and among those set in the step in progress (R194, log 7). -/
def Status.raise (f : Flag) (u : Status) : Status :=
  { u with flags := u.flags ||| f.mask, fresh := u.fresh ||| f.mask }

/-- Renew causes for the clearing of a read in progress (R187). -/
def Tap.renewCauses (f : Causes → Causes) (t : Tap) : Tap :=
  match t.pendingEnd with
  | .causes _ _ => { t with renewedCauses := f t.renewedCauses }
  | .nothing | .status _ | .counters _ | .converter _ | .asks _ => t

/-- Renew a flag for the clearing of a read in progress (R187). -/
def Tap.renewFlag (f : Flag) (t : Tap) : Tap :=
  match t.pendingEnd with
  | .status _ => { t with renewedFlags := t.renewedFlags ||| f.mask }
  | .nothing | .counters _ | .causes _ _ | .converter _ | .asks _ => t

/-- An error flag is set by an event of its table (R194); unless it is masked it latches the FLAG cause (R197). -/
def State.setFlag (s : State) (f : Flag) : State :=
  let s := (s.modStatus (Status.raise f)).modTap (Tap.renewFlag f)
  if s.status.mask &&& f.mask = 0 then
    (s.modStatus (Status.latchFlag f)).modTap (Tap.renewCauses fun c => { c with flag := true })
  else s

/-- The COUNTER cause is latched with the counter's name in the detail (COUNTER_HALF_SCALE, R196). -/
def State.latchCounter (s : State) (c : Counter) : State :=
  (s.modStatus fun u =>
      { u with causes := { u.causes with counter := true }
               counterDetail := u.counterDetail ||| c.mask
               halfDue := u.halfDue &&& ~~~ c.mask }).modTap
    (Tap.renewCauses fun c => { c with counter := true })

/-- A counter has risen to 32768 and its cause is not latched for it yet: the trigger of COUNTER_HALF_SCALE. -/
def State.halfScaleDue (s : State) (c : Counter) : Bool := s.status.halfDue &&& c.mask != 0

/-- A counter value one up, held at 65535 (R196). -/
def raisedCount (n : Nat) : Nat := if n < 65535 then n + 1 else n

/-- A counter rises by one, and at 32768 COUNTER_HALF_SCALE follows within the same step (R196). -/
def State.bump (s : State) (c : Counter) : State :=
  let old := s.counter c
  let s := s.modStatus fun u => { u with counters := u.counters.set c.index (raisedCount old) }
  if old = 32767 then (s.modStatus fun u => { u with halfDue := u.halfDue ||| c.mask }).latchCounter c else s

/-- A capture cause stands (R197). -/
def State.captureCause (s : State) : Bool := s.status.causes.captureCount || s.status.causes.captureTimer

/-- CAPTURE_COUNT is latched and the attention timer stops (CAPTURE_COUNT_REACHED, R197). -/
def State.latchCaptureCount (s : State) : State :=
  (s.modStatus fun u => { u with causes := { u.causes with captureCount := true }, attnTimer := none }).modTap
    (Tap.renewCauses fun c => { c with captureCount := true })

/-- CAPTURE_TIMER is latched and the attention timer stops (ATTENTION_TIMER_EXPIRY, R197). -/
def State.latchCaptureTimer (s : State) : State :=
  (s.modStatus fun u => { u with causes := { u.causes with captureTimer := true }, attnTimer := none }).modTap
    (Tap.renewCauses fun c => { c with captureTimer := true })

/-- The new-capture count stands at or above the attention count. -/
def State.captureCountReached (s : State) : Bool := s.settings.attentionCount ≤ s.status.newCaptures

/-- The new-capture count one up, held at 255; its rise from 0 to 1 starts the attention timer from 0, unless a capture
cause stands (R197). -/
def Status.countCapture (u : Status) : Status :=
  { u with
    newCaptures := if u.newCaptures < 255 then u.newCaptures + 1 else u.newCaptures
    attnTimer :=
      if u.newCaptures = 0 then if u.causes.captureCount || u.causes.captureTimer then none else some 0
      else u.attnTimer }

/-- A capture has been written: the count rises, and a rise to or above the attention count latches CAPTURE_COUNT within
the same step (R197). -/
def State.noteCapture (s : State) : State :=
  if s.status.newCaptures < 255 then
    let s := s.modStatus Status.countCapture
    if s.captureCountReached then s.latchCaptureCount else s
  else s

/-- The attention timer stands at or above its setting. -/
def State.attentionTimerReached (s : State) : Bool :=
  match s.status.attnTimer with
  | some n => s.settings.attentionTimer ≤ n
  | none => false

/-- The attention timer counts a mark while captures wait and no capture cause is latched, and latches CAPTURE_TIMER on
reaching its setting, within the same step (R197). -/
def State.countAttentionMark (s : State) : State :=
  if s.status.newCaptures = 0 || s.captureCause then s
  else
    let s := s.modStatus fun u => { u with attnTimer := u.attnTimer.map (· + 1) }
    if s.attentionTimerReached then s.latchCaptureTimer else s

/-- At a mark every flag last set before it is cleared; those set in the step in progress stand (R194, log 7). -/
def Status.clearOld (u : Status) : Status := { u with flags := u.flags &&& u.fresh }

/-- An unmasked flag is set (R195). -/
def State.unmaskedFlag (s : State) : Bool := s.status.flags &&& ~~~ s.status.mask != 0

/-- FAULT_N, true for high (R195). -/
def State.faultN (s : State) : Bool :=
  match s.mode with
  | .loading | .configFault | .lockedOut => false
  | .listening | .joined | .isolated => !s.unmaskedFlag

/-- ATTN, true for high (R197). -/
def State.attn (s : State) : Bool :=
  s.mode.receiving &&
    (s.status.causes.captureCount || s.status.causes.captureTimer || s.status.causes.flag || s.status.causes.counter)

end Sys2Proof.Machine
end

