-- ==== Sys2Proof/Machine/Operands.lean ====
section
/-! DEFINITION. What the commands carry: bits and bytes on the wheel line, the CRC, frames and their bodies
(chapter 1.1, section 12.1). -/

namespace Sys2Proof.Machine

/-- The CRC polynomial x^16+x^12+x^5+1 (R4). -/
def crcPolynomial : Word := 0x1021

/-- Eight shifts of the CRC register, most significant bit first (R4). -/
def crcShift : Nat → Word → Word
  | 0, c => c
  | n + 1, c => crcShift n (if c.msb then (c <<< 1) ^^^ crcPolynomial else c <<< 1)

/-- One byte taken into the CRC (R4). -/
def crcByte (c : Word) (b : Byte) : Word := crcShift 8 (c ^^^ (b.setWidth 16 <<< 8))

/-- The CRC of a byte list: initial value FFFFh, no final inversion (R4). -/
def crc16 (bytes : List Byte) : Word := bytes.foldl crcByte 0xFFFF

/-- A 16-bit word high byte first (12). -/
def wordBytes (w : Word) : List Byte := [w.extractLsb' 8 8, w.extractLsb' 0 8]

/-- A 16-bit word from its high and low byte. -/
def wordOf (hi lo : Byte) : Word := (hi.setWidth 16 <<< 8) ||| lo.setWidth 16

/-- The sync byte (R4). -/
def syncByte : Byte := 0xA7

/-- A driven bit as the transceiver reads it back. -/
def drivenBit (b : Bool) : LineBit := if b then .one else .zero

/-- The eight data bits of a byte, least significant first (R3). -/
def dataBits (b : Byte) : List Bool :=
  [b.getLsbD 0, b.getLsbD 1, b.getLsbD 2, b.getLsbD 3, b.getLsbD 4, b.getLsbD 5, b.getLsbD 6, b.getLsbD 7]

/-- The ten bit times of one byte: start bit 0, data bits, stop bit 1 (R3). -/
def byteBits (b : Byte) : List LineBit := .zero :: (dataBits b).map drivenBit ++ [.one]

/-- The bit times of bytes sent without gaps (R3). -/
def lineBits (bytes : List Byte) : List LineBit := bytes.flatMap byteBits

/-- A bit time as the transceiver reports it, from the levels that the stations sending in it drive (R3): with none the line
is released and reads 1, levels that agree read as driven, and opposite levels read CONTENDED. -/
def lineReading : List LineBit → LineBit
  | [] => .one
  | level :: others => if others.all (· == level) then level else .contended

/-- The first bit time that is read back otherwise than it was sent, as CONTENDED or as the opposite (R3). -/
def firstMismatch : List LineBit → List LineBit → Option Nat
  | [], _ => none
  | _ :: _, [] => none
  | sent :: others, read :: rest => if read = sent then (firstMismatch others rest).map (· + 1) else some 0

/-- The number that bits spell, least significant first. -/
def natOfBits : List Bool → Nat
  | [] => 0
  | b :: rest => b.toNat + 2 * natOfBits rest

/-- The byte that data bits spell; bits that never came are the released line's 1 (R3). -/
def byteOfBits (bits : List Bool) : Byte :=
  BitVec.ofNat 8 (natOfBits (bits ++ List.replicate (8 - bits.length) true))

/-- The receiver of R3, R4 and R6: `byte` holds the data bits of a byte begun, `gap` the released bit times since the
last byte, `got` the bytes received. A CONTENDED bit or a stop bit of 0 is a break, and ends the sequence; twelve
released bit times end the frame. The answer says whether a break ended it. -/
def receiveFrom (byte : Option (List Bool)) (gap : Nat) (got : List Byte) : List LineBit → List Byte × Bool
  | [] =>
    match byte with
    | none => (got, false)
    | some bits => (got ++ [byteOfBits bits], false)
  | bit :: rest =>
    match byte with
    | none =>
      match bit with
      | .one => if 11 ≤ gap then (got, false) else receiveFrom none (gap + 1) got rest
      | .zero => receiveFrom (some []) 0 got rest
      | .contended => (got, true)
    | some bits =>
      match bit with
      | .contended => (got, true)
      | .one =>
        if bits.length = 8 then receiveFrom none 0 (got ++ [byteOfBits bits]) rest
        else receiveFrom (some (bits ++ [true])) 0 got rest
      | .zero =>
        if bits.length = 8 then (got, true) else receiveFrom (some (bits ++ [false])) 0 got rest

/-- The bytes of a received sequence, and whether a break ended it (R3, R6). -/
def receive (bits : List LineBit) : List Byte × Bool := receiveFrom none 0 [] bits

/-- Header byte 0 of a class (12.1): the kind in bits 7..4, the class in bits 3..0. -/
def classHeader (c : FrameClass) : Byte := BitVec.ofNat 8 (16 * c.kind.code.toNat + c.toNat)

/-- The class that a header byte 0 names; none when its kind is not defined, or its class not for that kind (R5, R9). -/
def classOfHeader (b : Byte) : Option FrameClass :=
  match b.toNat with
  | 0x11 => some .mark | 0x23 => some .state | 0x35 => some .essential | 0x36 => some .info | 0x44 => some .ask
  | 0x52 => some .reply | _ => none

/-- The header and body bytes of a frame, over which the CRC runs (R4). -/
def frameContent (header sender round : Byte) (body : List Byte) : List Byte :=
  [header, sender, round, BitVec.ofNat 8 body.length] ++ body

/-- All the bytes of a frame on the line (R4, 12.1). -/
def frameBytes (header sender round : Byte) (body : List Byte) : List Byte :=
  syncByte :: frameContent header sender round body ++ wordBytes (crc16 (frameContent header sender round body))

/-- A frame that has passed the length check, taken apart (12.1). -/
structure Frame where
  header : Byte
  sender : Byte
  round : Byte
  body : List Byte
  crc : Word
  deriving DecidableEq, Repr

/-- The byte at a place of a list, 0 where the list is shorter. -/
def byteAt (bytes : List Byte) (i : Nat) : Byte := bytes.getD i 0

/-- Take the bytes after the sync byte apart; the last two are the CRC (R4). -/
def Frame.ofBytes (bytes : List Byte) : Frame where
  header := byteAt bytes 0
  sender := byteAt bytes 1
  round := byteAt bytes 2
  body := (bytes.drop 4).take (bytes.length - 6)
  crc := wordOf (byteAt bytes (bytes.length - 2)) (byteAt bytes (bytes.length - 1))

/-- The CRC that a frame should carry (R8). -/
def Frame.expectedCrc (f : Frame) : Word := crc16 (frameContent f.header f.sender f.round f.body)

/-- Body bytes of a STATE by role; a PLATFORM's follows from its zone entry count (R5). -/
def stateBodyLength (role : Role) (n : Nat) : Option Nat :=
  match role with
  | .console => some 6
  | .drive => some 9
  | .mast => some 11
  | .cabin => some 12
  | .platform => if n ≤ 3 then some (10 + 3 * n) else none
  | .absent => none

/-- The format check of R9 on the class and the body. -/
def formatOk (f : Frame) : Bool :=
  match classOfHeader f.header with
  | none => false
  | some .mark => f.body.length == 4
  | some .reply => f.body.length == 4
  | some .ask => f.body.length == 5
  | some .essential => f.body.length == 6
  | some .info => f.body.length == 6
  | some .state =>
    match Role.ofCode (byteAt f.body 4) with
    | none => false
    | some role => 5 ≤ f.body.length && stateBodyLength role (byteAt f.body 5).toNat == some f.body.length

/-- The bytes of a STATE body (12.1). -/
def Statement.bytes (b : Statement) (congested : Bool) : List Byte :=
  b.vote :: wordBytes b.reasons ++ [bitByte congested, b.role.code] ++ b.fields

/-- A STATE body read back (12.1). -/
def HeardState.ofBody (body : List Byte) : HeardState where
  body :=
    { vote := byteAt body 0
      reasons := wordOf (byteAt body 1) (byteAt body 2)
      role := (Role.ofCode (byteAt body 4)).getD .absent
      fields := body.drop 5 }
  congested := (byteAt body 3).getLsbD 0

/-- An occupancy on the line: UNKNOWN is FFh (R199). -/
def occupancyByte : Option Nat → Byte
  | none => 0xFF
  | some n => BitVec.ofNat 8 n

/-- An optional two-byte field on the line: absent is FFFFh (R199). -/
def optionalWord : Option Nat → List Byte
  | none => [0xFF, 0xFF]
  | some n => twoBytes n

/-- A notice value carrying an occupancy or an aboard count: UNKNOWN is 00FFh (R199). -/
def occupancyValue : Option Nat → Nat
  | none => 255
  | some n => n

/-- The cabin index byte of a notice: FFh for none (12.1). -/
def cabinByte : Option Nat → Byte
  | none => 0xFF
  | some n => BitVec.ofNat 8 n

/-- A NOTICE body (12.1). -/
def noticeBody (kind : NoticeKind) (cabin : Option Nat) (value1 value2 : Nat) : List Byte :=
  [kind.code, cabinByte cabin] ++ twoBytes value1 ++ twoBytes value2

/-- An ASK body (12.1). -/
def askBody (target : Nat) (kind : AskKind) (tag : Nat) (argument : Word) : List Byte :=
  [BitVec.ofNat 8 target, kind.code, BitVec.ofNat 8 tag] ++ wordBytes argument

/-- The answer to an ask: accepted, or refused for a reason (R166). -/
inductive Answer where
  | accepted
  | refused (reason : ReplyReason)
  deriving DecidableEq, Repr

/-- A REPLY body (12.1). -/
def replyBody (asker tag : Byte) : Answer → List Byte
  | .accepted => [asker, tag, 0, 0]
  | .refused r => [asker, tag, 1, r.code]

/-- A MARK body (R29, 12.1). -/
def markBody (occupied : Nat) (digest : Word) (level : Level) : List Byte :=
  BitVec.ofNat 8 occupied :: wordBytes digest ++ [level.code]

/-- A set of flags as one byte, the first flag in bit 0. -/
def flagByte (flags : List Bool) : Byte := BitVec.ofNat 8 (natOfBits flags)

/-- Membership of a reason in a reasons set (12.5). -/
def hasReason (set : Word) (r : Reason) : Bool := set &&& r.mask != 0

/-- The reasons set of a list of reasons, each with the condition that puts it in. -/
def reasonsOf : List (Bool × Reason) → Word
  | [] => 0
  | (on, r) :: rest => (if on then r.mask else 0) ||| reasonsOf rest

end Sys2Proof.Machine
end

