-- ==== Sys2Proof/Machine/Ops.lean ====
section
/-! DEFINITION. The operations that several blocks share: the roster's fields, the passing of time, the field inputs, the
transmit queue's offers, notices and replies, the converter's restart. -/

namespace Sys2Proof.Machine

/-! ### The roster -/

/-- The roster entry of a station number (R39); a number above 63 names no station and reads ABSENT (log 13). -/
def State.entryAt (s : State) (n : Nat) : RosterEntry := s.roster.getD n RosterEntry.absent

/-- The roster role of a station number. -/
def State.roleAt (s : State) (n : Nat) : Role := (s.entryAt n).role

/-- The own roster entry (R39). -/
def State.ownEntry (s : State) : RosterEntry := s.entryAt s.station

/-- The own role (R39). -/
def State.role (s : State) : Role := s.ownEntry.role

/-- The own mark rank (R39, R45). -/
def State.rank (s : State) : Option Nat := s.ownEntry.rank

/-- The own cabin index. -/
def State.cabinIndex (s : State) : Option Nat := s.ownEntry.cabin

/-- The station is expected (R39). -/
def RosterEntry.expected (e : RosterEntry) : Bool := e.role != .absent

/-- Change one roster entry. -/
def State.modEntry (s : State) (n : Nat) (f : RosterEntry → RosterEntry) : State :=
  s.modRoster fun r =>
    match r[n]? with
    | some e => r.set n (f e)
    | none => r

/-! ### Time (log 2) -/

/-- A running timer with `dt` microseconds less to run. -/
def less (dt : Nat) (t : Option Nat) : Option Nat := t.map (· - dt)

/-- The highest threshold of the round timer (R26, log 21). -/
def State.roundTimerTop (s : State) : Nat :=
  match s.rank with
  | some k => 2 * s.settings.periodTime + ms (5 * k)
  | none => 2 * s.settings.periodTime

/-- Time passes for a queue entry. -/
def TxEntry.elapse (dt : Nat) (e : TxEntry) : TxEntry :=
  { e with
    backoff := less dt e.backoff
    stagger := less dt e.stagger
    attempt := e.attempt.map fun a => { a with elapsed := a.elapsed + dt } }

/-- An attempt is in progress. -/
def Line.sending (l : Line) : Bool := l.queue.any fun e => e.attempt.isSome

/-- Time passes for the Line Controller; the idle time is not counted while the station sends (R18). The time in which
another station drives the line passes in FRAME_RECEPTION, which sets the idle time at its end (log 22). -/
def Line.elapse (dt : Nat) (l : Line) : Line :=
  { l with
    queue := l.queue.map (TxEntry.elapse dt)
    isoTimer := less dt l.isoTimer
    idle := if l.sending then l.idle else min 16 (l.idle + dt) }

/-- Time passes for the round timer, which holds at its highest threshold (R26, log 21). -/
def Round.elapse (dt top : Nat) (r : Round) : Round := { r with timer := max r.timer (min (r.timer + dt) top) }

/-- Time passes for the drive's timers. -/
def Drive.elapse (dt : Nat) (d : Drive) : Drive :=
  { d with
    releaseTimer := less dt d.releaseTimer
    stopTimer := less dt d.stopTimer
    faultClearTimer := less dt d.faultClearTimer
    brakeCheckTimer := less dt d.brakeCheckTimer }

/-- Time passes for the cabin's timers. -/
def Cabin.elapse (dt : Nat) (c : Cabin) : Cabin :=
  { c with
    openLimit := less dt c.openLimit
    closeLimit := less dt c.closeLimit
    latchLimit := less dt c.latchLimit
    recloseDelay := less dt c.recloseDelay
    weighLimit := less dt c.weighLimit
    dwellTimer := less dt c.dwellTimer }

/-- Time passes for a gate. -/
def Gate.elapse (dt : Nat) (g : Gate) : Gate := { g with timer := less dt g.timer }

/-- Time passes for the gates. -/
def Platform.elapse (dt : Nat) (p : Platform) : Platform :=
  { p with exitGate := p.exitGate.elapse dt, entryGate := p.entryGate.elapse dt }

/-- Time passes for the wind tick. -/
def Wind.elapse (dt : Nat) (w : Wind) : Wind := { w with tick := less dt w.tick }

/-- Time passes for the converter; de-integration goes on with it (R148). -/
def Converter.elapse (dt : Nat) (c : Converter) : Converter :=
  { c with
    timer := less dt c.timer
    deint := if c.phase = .deintegrating then c.deint + dt else c.deint }

/-- `dt` microseconds pass, on every clock of the station (log 2). The round timer holds at 0 in LOADING and
CONFIG_FAULT (R26). -/
def State.elapse (dt : Nat) (s : State) : State :=
  { s with
    filter := s.filter.map (· - dt)
    loader := { s.loader with retryWait := less dt s.loader.retryWait }
    line := s.line.elapse dt
    round := if s.mode.receiving then s.round.elapse dt s.roundTimerTop else s.round
    drive := s.drive.elapse dt
    cabin := s.cabin.elapse dt
    platform := s.platform.elapse dt
    wind := s.wind.elapse dt
    conv := s.conv.elapse dt }

/-- Time passes until the round timer stands at `t`, none if it is there already. -/
def State.elapseToRound (t : Nat) (s : State) : State := s.elapse (t - s.round.timer)

/-! ### Field inputs -/

/-- The level of a field input (R2). -/
def State.input (s : State) (n : Nat) : Bool := s.fi.getLsbD n

/-- The time in which an input must be steady for a change to count (R2). -/
def filterTime : Nat := ms 5

/-- A change of an input now can have been steady for the filter time since the last one that counted (R2). -/
def State.filterPassed (s : State) (n : Nat) : Bool := s.filter.getD n 0 == 0

/-- A field input takes a level; its next change cannot have been steady before the filter time has passed (R2). -/
def State.takeInput (s : State) (n : Nat) (level : Bool) : State := (s.setFi n level).startFilter n filterTime

/-- A field input has become active; it must be steadily inactive and steadily active again for the next time (R2). -/
def State.takePulse (s : State) (n : Nat) : State := s.startFilter n (2 * filterTime)

/-- A cabin's open end position (R1). -/
def State.openEnd (s : State) : Bool := s.input 0
/-- A cabin's closed end position (R1). -/
def State.closedEnd (s : State) : Bool := s.input 1
/-- A cabin's latch (R1, R79). -/
def State.latched (s : State) : Bool := s.input 2
/-- A cabin's obstruction edge (R1). -/
def State.obstruction (s : State) : Bool := s.input 3
/-- A drive's brake report (R1). -/
def State.brakeReleased (s : State) : Bool := s.input 0
/-- A drive's rest report (R1). -/
def State.stationary (s : State) : Bool := s.input 1
/-- A drive's fault report (R1). -/
def State.driveFaultInput (s : State) : Bool := s.input 2
/-- A gate's CLOSED input (R1). -/
def State.gateClosed (s : State) : GateId → Bool
  | .exit => s.input 15
  | .entry => s.input 16

/-! ### The transmit queue: offers (R13 to R16) -/

/-- How an offer ended: the frame took a place, took the place of a displaced INFO NOTICE, or was discarded. -/
inductive Offered where
  | taken
  | displaced
  | discarded
  deriving DecidableEq, Repr

/-- An entry as it takes its place in the queue (R13). -/
def TxEntry.fresh (cls : FrameClass) (body : List Byte) (stagger : Option Nat) : TxEntry :=
  ⟨cls, body, 0, none, stagger, none⟩

/-- A queued MARK or STATE meets its replacement: at once, or after the attempt in progress (R13). -/
def TxEntry.replaceBy (body : List Byte) (stagger : Option Nat) (e : TxEntry) : TxEntry :=
  match e.attempt with
  | none => TxEntry.fresh e.cls body stagger
  | some a => { e with attempt := some { a with after := .replace body stagger } }

/-- A kind of which the queue holds at most one (R13). -/
def FrameClass.single : FrameClass → Bool
  | .mark | .state => true
  | .reply | .ask | .essential | .info => false

/-- An INFO NOTICE that is not being sent (R14). -/
def TxEntry.displaceable (e : TxEntry) : Bool := e.cls == .info && e.attempt.isNone

/-- Offer a frame to the transmit queue, by the first rule that applies: R15, R16, R13, R14. That R15 comes before R16, so
that an INFO NOTICE offered outside JOINED is not counted in TX_DROPS while the peers-congested flag is set, is the model's
choice (log 46). A frame that displaces an INFO NOTICE goes last in the order of arrival: the place R14 leaves open
(log 33). -/
def State.queueOffer (s : State) (cls : FrameClass) (body : List Byte) (stagger : Option Nat) : Offered × State :=
  if s.mode ≠ .joined then (.discarded, s)
  else if cls = .info ∧ s.line.peersCongested then (.discarded, s.bump .txDrops)
  else if FrameClass.single cls ∧ s.line.queue.any (fun e => e.cls == cls) then
    (.taken, s.modLine fun l =>
      { l with queue := l.queue.map fun e => if e.cls = cls then e.replaceBy body stagger else e })
  else if s.line.queue.length < 8 then
    (.taken, s.modLine fun l => { l with queue := l.queue ++ [TxEntry.fresh cls body stagger] })
  else if cls = .info then (.discarded, s.bump .txDrops)
  else if s.line.queue.any TxEntry.displaceable then
    (.displaced, (s.modLine fun l =>
      { l with queue := l.queue.eraseP TxEntry.displaceable ++ [TxEntry.fresh cls body stagger] }).bump .txDrops)
  else (.discarded, s.setFlag .txqOverflow)

/-- The Round Controller offers its MARK; one that meets a full queue waits to be offered afresh (R27, R28). The body is
filled in at each attempt (R29). -/
def State.offerMark (s : State) : State :=
  match s.queueOffer .mark [] none with
  | (.discarded, t) => if s.mode = .joined then t.modLine fun l => { l with markWaiting := true } else t
  | (.taken, t) | (.displaced, t) => t

/-- An entry has left the queue: a MARK that waits is offered afresh (R28, log 18). -/
def State.entryLeft (s : State) : State :=
  if s.line.markWaiting ∧ s.mode = .joined then
    (s.modLine fun l => { l with markWaiting := false }).offerMark
  else s

/-- Offer a frame that is not a MARK, and say whether it was taken (R14). -/
def State.offer (s : State) (cls : FrameClass) (body : List Byte) (stagger : Option Nat) : Bool × State :=
  match s.queueOffer cls body stagger with
  | (.taken, t) => (true, t)
  | (.displaced, t) => (true, t.entryLeft)
  | (.discarded, t) => (false, t)

/-- Offer a NOTICE of the class its kind fixes; its fate is of no effect to the sender (R167). -/
def State.notice (s : State) (kind : NoticeKind) (cabin : Option Nat) (value1 value2 : Nat) : State :=
  (s.offer kind.cls (noticeBody kind cabin value1 value2) none).2

/-- Offer the REPLY to an ask (R166). -/
def State.reply (s : State) (asker tag : Byte) (answer : Answer) : State :=
  (s.offer .reply (replyBody asker tag answer) none).2

/-! ### The converter's phases -/

/-- Zeroing time of a mode (R144). -/
def zeroingTime : ConvMode → Nat
  | .load => ms 80
  | .wind => ms 20

/-- Integrating time of a mode (R144). -/
def integratingTime : ConvMode → Nat
  | .load => ms 160
  | .wind => ms 40

/-- Count period of a mode in microseconds (R144). -/
def countPeriod : ConvMode → Nat
  | .load => 20
  | .wind => 40

/-- Full scale of a mode in counts (R144). -/
def fullScale : ConvMode → Nat
  | .load => 16000
  | .wind => 2000

/-- Entry to ZEROING (R146). -/
def Converter.zero (m : ConvMode) (c : Converter) : Converter :=
  { c with phase := .zeroing, timer := some (zeroingTime m), integrator := 0, deint := 0, polarity := none }

/-- A restart of the converter (R151): no effect in mode none, else ZEROING from its full time. -/
def Converter.restart (c : Converter) : Converter :=
  match c.mode with
  | none => c
  | some m => c.zero m

/-- Restart the converter (R151). -/
def State.restartConverter (s : State) : State := s.modConv Converter.restart

end Sys2Proof.Machine
end

