-- ==== Sys2Proof/Machine/Replica.lean ====
section
/-! DEFINITION. The Cabin Replica: the 48 records, their update, the occupied count, the digest (chapter 4). -/

namespace Sys2Proof.Machine

/-- A vote code judged by the Agreement Unit for a sender's role (R46). -/
def judgeVote (role : Role) (vote : Byte) : Level :=
  match Level.ofCode vote with
  | none => .stop
  | some .noLimit => if role = .console then .noLimit else .cruise
  | some l => l

/-- The record of a cabin index. -/
def State.record (s : State) (i : Nat) : CabinRecord := s.replica.records.getD i CabinRecord.unused

/-- Change the record of a cabin index. -/
def State.modRecord (s : State) (i : Nat) (f : CabinRecord → CabinRecord) : State :=
  s.modReplica fun r =>
    match r.records[i]? with
    | some x => { r with records := r.records.set i (f x) }
    | none => r

/-- A configured record is AGED while its owner is SILENT or it has never been updated (R67). Until an image names the
owners every record is AGED (R181). -/
def State.aged (s : State) (x : CabinRecord) : Bool :=
  match x.owner with
  | none => !s.mode.receiving
  | some o => (s.entryAt o).silent || x.lastRound.isNone

/-- The read occupancy of a record (R67); `none` is UNKNOWN. An unused record holds occupancy 0 (R66). -/
def State.readOccupancy (s : State) (x : CabinRecord) : Option Nat :=
  if s.aged x then none else if x.owner = none then some 0 else x.occupancy

/-- A record counts as occupied (R73). -/
def State.occupied (s : State) (x : CabinRecord) : Bool :=
  match s.readOccupancy x with
  | none => true
  | some n => 0 < n

/-- The occupied count (R73). -/
def State.occupiedCount (s : State) : Nat := (s.replica.records.filter s.occupied).length

/-- The occupancy digest (R74). -/
def State.digest (s : State) : Word := crc16 (s.replica.records.map fun x => occupancyByte (s.readOccupancy x))

/-- The fields of a cabin role body, from body offset 5 on (12.1). -/
structure CabinBody where
  index : Nat
  phase : Byte
  marker : Byte
  occupancy : Byte
  load : Nat
  latched : Bool
  dwell : Bool
  deriving DecidableEq, Repr

/-- Read a cabin role body. -/
def CabinBody.of (b : Statement) : CabinBody where
  index := (byteAt b.fields 0).toNat
  phase := byteAt b.fields 1
  marker := byteAt b.fields 2
  occupancy := byteAt b.fields 3
  load := ofTwoBytes (byteAt b.fields 4) (byteAt b.fields 5)
  latched := (byteAt b.fields 6).getLsbD 0
  dwell := (byteAt b.fields 6).getLsbD 1

/-- The code of an absent load (R199). -/
def absentWord : Nat := 0xFFFF

/-- The occupancy of a cabin role body: UNKNOWN, a number 0..63, or a value that R69 refuses. -/
def occupancyOfByte (b : Byte) : Option (Option Nat) :=
  if b = 0xFF then some none else if b.toNat ≤ 63 then some (some b.toNat) else none

/-- A load of a cabin role body: absent, 0..4000, or a value that R69 refuses. -/
def loadOfWord (n : Nat) : Option (Option Nat) :=
  if n = absentWord then some none else if n ≤ 4000 then some (some n) else none

/-- The judgement of R69 and the fields of R70: the record after the update, or the flag of the refusal. Of a body in two
cases with different flags STRANGER alone is set, which R69 leaves open (log 35). -/
def CabinBody.judge (c : CabinBody) (vote round : Byte) (rosterIndex : Option Nat) (x : CabinRecord) :
    Except Flag CabinRecord :=
  if rosterIndex ≠ some c.index then .error .stranger
  else
    match Phase.ofCode c.phase, Marker.ofCode c.marker, occupancyOfByte c.occupancy, loadOfWord c.load with
    | some phase, some marker, some occupancy, some load =>
      .ok { x with
        phase := phase, marker := marker, occupancy := occupancy, load := load, latched := c.latched
        dwell := c.dwell, vote := judgeVote .cabin vote, lastRound := some round, freshness := 0 }
    | _, _, _, _ => .error .format

/-- A CABIN STATE reaches the replica (R68 to R71): it updates the record of its sender's roster cabin index, or sets the
flag of its refusal; a stale one, and any while the first-mark mark is set, does nothing. -/
def State.takeCabinState (s : State) (sender : Nat) (round : Byte) (b : Statement) : State :=
  if s.round.firstMark || round ≠ s.round.number then s
  else
    let i := (s.entryAt sender).cabin
    match (CabinBody.of b).judge b.vote round i (s.record (i.getD 48)) with
    | .ok x => s.modRecord (i.getD 48) fun _ => x
    | .error f => s.setFlag f

/-- Ageing at a mark (R72). -/
def CabinRecord.age (x : CabinRecord) : CabinRecord :=
  match x.owner with
  | none => x
  | some _ => if x.freshness < 255 then { x with freshness := x.freshness + 1 } else x

/-- Every configured record ages at a mark (R72). -/
def State.ageReplica (s : State) : State :=
  s.modReplica fun r => { r with records := r.records.map CabinRecord.age }

/-- A heard MARK taken while JOINED is compared with the own replica (R75). -/
def State.compareReplica (s : State) (count digest : Nat) : State :=
  if s.occupiedCount = count ∧ s.digest.toNat = digest then s.modReplica fun r => { r with divergence := false }
  else (s.modReplica fun r => { r with divergence := true }).setFlag .replicaDiverge

end Sys2Proof.Machine
end

