-- ==== Sys2Proof/Machine/Agreement.lean ====
section
/-! DEFINITION. The Agreement Unit: effective votes, the agreed level, holders, skew (sections 3.1 to 3.3). -/

namespace Sys2Proof.Machine

/-- An effective vote (R48). -/
structure EffectiveVote where
  level : Level
  source : VoteSource
  reasons : Word
  deriving DecidableEq, Repr

/-- The slot of a station on a side of the heard table. -/
def HeardSide.slot (h : HeardSide) (n : Nat) : Option HeardState := (h.slots[n]?).getD none

/-- The effective vote of an expected station (R48). -/
def effectiveVote (g : Settings) (h : Option HeardState) (e : RosterEntry) : EffectiveVote :=
  let silence : EffectiveVote := ⟨g.silenceVote e.role, .silence, 0⟩
  match h with
  | some x => ⟨judgeVote e.role x.body.vote, .heard, x.body.reasons⟩
  | none =>
    match e.last with
    | none => silence
    | some b =>
      let last : EffectiveVote := ⟨judgeVote e.role b.vote, .last, b.reasons⟩
      if e.silent ∧ ¬ (judgeVote e.role b.vote).toNat ≤ (g.silenceVote e.role).toNat then silence else last

/-- The expected stations with their effective votes, in ascending order (R48, R50). -/
def State.effectiveVotes (s : State) : List (Nat × RosterEntry × EffectiveVote) :=
  (List.range 64).filterMap fun n =>
    let e := s.entryAt n
    if e.expected then some (n, e, effectiveVote s.settings (s.round.frozen.slot n) e) else none

/-- The most restrictive of some levels, at most CRUISE (R49). -/
def agreedLevel (votes : List Level) : Level := votes.foldl Level.min .cruise

/-- A holder of a level (R50). -/
def holderOf (level : Level) (v : Nat × RosterEntry × EffectiveVote) : Option Holder :=
  if v.2.2.level = level then some ⟨v.1, v.2.2.source, v.2.2.reasons, v.2.1.silent⟩ else none

/-- The holders of a level; none at CRUISE (R50). -/
def holdersOf (level : Level) (votes : List (Nat × RosterEntry × EffectiveVote)) : List Holder :=
  match level with
  | .stop | .creep => votes.filterMap (holderOf level)
  | .cruise | .noLimit => []

/-- The union of the holders' reasons (R50). -/
def reasonsUnion (holders : List Holder) : Word := holders.foldl (fun w h => w ||| h.reasons) 0

/-- SILENT joins the reasons for a holder that is SILENT or counted by its silence vote (R50). -/
def holderSilent (h : Holder) : Bool := h.silent || h.source == .silence

/-- The agreed level computed at a mark taken while JOINED, with holders and reasons (R49, R50). -/
def State.computeAgreement (s : State) (closed : Byte) : State :=
  let votes := s.effectiveVotes
  let level := agreedLevel (votes.map fun v => v.2.2.level)
  let holders := holdersOf level votes
  s.modAgreement fun a =>
    { a with
      level := level
      roundClosed := some closed
      holders := holders
      reasons := reasonsUnion holders
      silentReason := holders.any holderSilent }

/-- The target levels of the drive STATEs on a side; `none` for a code that names no level (R53). -/
def HeardSide.targets (h : HeardSide) : List (Option Level) :=
  h.slots.filterMap fun x =>
    match x with
    | none => none
    | some y => if y.body.role = .drive then some (Level.ofCode (byteAt y.body.fields 1)) else none

/-- Skew is found: two or more drives, and their targets not all the same level (R53). -/
def skewFound (targets : List (Option Level)) : Bool :=
  match targets with
  | [] => false
  | [_] => false
  | t :: rest => t.isNone || rest.any fun u => u != t

/-- The skew check at a mark taken while JOINED (R53). -/
def State.checkSkew (s : State) : State :=
  let found := skewFound s.round.frozen.targets
  let s := s.modAgreement fun a => { a with skew := found }
  if found ∧ s.role = .drive then s.setFlag .skew else s

/-- Founding, or leaving JOINED (R51). -/
def State.resetAgreement (s : State) : State :=
  s.modAgreement fun a =>
    { a with level := .stop, holders := [], reasons := 0, silentReason := false, skew := false }

/-- The level carried in a heard MARK is compared with the own (R52). -/
def State.compareLevel (s : State) (code : Byte) : State :=
  if Level.ofCode code = some s.agreement.level then s else s.setFlag .agreeDiverge

end Sys2Proof.Machine
end

