-- ==== Sys2Proof/Machine/OwnState.lean ====
section
/-! DEFINITION. What a station makes of its role's state: the gate commands, the vote and role body on the working side of
the own STATE, and how a command ends (R37, R114, R64, R79, R95, R103, R124, R140, R141, R171). -/

namespace Sys2Proof.Machine

/-! ### Gates (R114, R115) -/

/-- The travel time of a gate (R115). -/
def gateTravelTime : Nat := sec 3

/-- The oldest zone entry of a segment: the EXIT cabin or the ENTRY cabin (R104). -/
def Platform.first (p : Platform) (seg : Segment) : Option ZoneEntry := p.zone.find? fun e => e.segment == seg

/-- The counted occupancy of an entry, clamped at 0; `none` is UNKNOWN (R113). -/
def ZoneEntry.counted (e : ZoneEntry) : Option Nat := e.aboard.map fun n => n + e.boarded - e.alighted

/-- The replica record of a cabin shows OPEN and is not AGED (R114). -/
def State.showsOpen (s : State) (cabin : Nat) : Bool := (s.record cabin).phase == .opened && !s.aged (s.record cabin)

/-- The exit gate's command, `true` for OPEN (R114). -/
def State.exitGateWanted (s : State) : Bool :=
  match s.platform.first .exit with
  | none => false
  | some e => e.mode != .pass && s.showsOpen e.cabin

/-- The entry gate's command, `true` for OPEN (R114). -/
def State.entryGateWanted (s : State) : Bool :=
  match s.platform.first .entry with
  | none => false
  | some e =>
    e.mode == .normal && s.platform.boardingOpen && s.showsOpen e.cabin &&
      (match e.counted with
        | none => false
        | some n => n < s.settings.capacity)

/-- The position matches the command (R115). -/
def Gate.matching (g : Gate) (closed : Bool) : Bool := closed != g.commandOpen

/-- A gate's position is judged afresh after its command or its position has changed: a match stops the timer and ends a
fault; a mismatch starts the timer, unless the gate is in fault (R115). -/
def Gate.judge (closed : Bool) (g : Gate) : Gate :=
  if g.matching closed then { g with fault := false, timer := none }
  else if g.fault then { g with timer := none }
  else { g with timer := some gateTravelTime }

/-- The command worked out afresh (R114, R115). -/
def Gate.order (wanted closed : Bool) (g : Gate) : Gate :=
  if wanted = g.commandOpen then g else Gate.judge closed { g with commandOpen := wanted }

/-- Both gates are commanded afresh on a PLATFORM station (R114). -/
def State.updateGates (s : State) : State :=
  if s.role = .platform then
    s.modPlatform fun p =>
      { p with
        exitGate := p.exitGate.order s.exitGateWanted (s.gateClosed .exit)
        entryGate := p.entryGate.order s.entryGateWanted (s.gateClosed .entry) }
  else s

/-- The published gate state (R115). -/
def Gate.state (g : Gate) (closed : Bool) : GateState :=
  if g.fault then .faulted
  else if g.matching closed then (if g.commandOpen then .opened else .closed)
  else if g.commandOpen then .opening else .closing

/-! ### Votes -/

/-- A vote with its reasons (R46). -/
structure Vote where
  level : Level
  reasons : Word
  deriving DecidableEq, Repr

/-- A vote from STOP conditions, CREEP conditions, and the level where none holds: only the reasons of the level voted are
given (R95, R124, R140). -/
def Vote.of (stop creep : List (Bool × Reason)) : Vote :=
  if stop.any Prod.fst then ⟨.stop, reasonsOf stop⟩
  else if creep.any Prod.fst then ⟨.creep, reasonsOf creep⟩
  else ⟨.cruise, 0⟩

/-- The phases in which the door is open or opening. -/
def Phase.opening? : Phase → Bool
  | .opening | .opened => true
  | .away | .passing | .closing | .weighing | .ready | .overloaded | .doorFault => false

/-- The cabin's vote (R95). -/
def Cabin.vote (c : Cabin) : Vote :=
  Vote.of
    [(c.dwell, .dwell), (c.phase == .overloaded && !c.weighFault, .overload),
      (c.phase == .overloaded && c.weighFault, .weighFault), (c.phase == .doorFault, .door),
      (c.departPending, .departUnready), (Phase.opening? c.phase && c.marker.afterClose, .door)]
    [(c.phase == .closing || c.phase == .weighing, .door)]

/-- The drive's vote (R64). -/
def Drive.vote (d : Drive) : Vote :=
  if d.state = .faulted ∨ d.skewFound then
    ⟨.stop, (if d.state = .faulted then d.reasons else 0) ||| (if d.skewFound then Reason.skew.mask else 0)⟩
  else ⟨.cruise, 0⟩

/-- The platform's zone faults are not empty. -/
def Platform.faulty (p : Platform) : Bool := p.orderFault || p.indexFault || p.phaseFault

/-- The platform's vote (R124). -/
def Platform.vote (p : Platform) : Vote :=
  Vote.of
    [(p.faulty, .zone), (p.exitGate.fault || p.entryGate.fault, .gate), (p.stopFlag, .operatorStop),
      (p.watch.any Watched.unready, .departUnready)]
    []

/-- The mast's vote (R140). -/
def Wind.vote (w : Wind) : Vote :=
  Vote.of [(w.sensorFault, .windSensor), (w.stage == .hold || w.stage == .shut, .windHold)]
    [(w.stage == .clear, .windClear)]

/-- The console's vote (R171). -/
def Console.vote (c : Console) : Vote :=
  match c.stop, c.evac with
  | true, false => ⟨.stop, Reason.operatorStop.mask⟩
  | true, true => ⟨.stop, Reason.operatorStop.mask ||| Reason.evac.mask⟩
  | false, true => ⟨.creep, Reason.evac.mask⟩
  | false, false => ⟨.noLimit, 0⟩

/-! ### Role bodies (12.1) -/

/-- The brake output is active (R54). -/
def DriveState.braking : DriveState → Bool
  | .braked | .faulted => true
  | .releasing | .moving | .stopping => false

/-- Fields of the cabin role body (R79). -/
def State.cabinFields (s : State) : List Byte :=
  [cabinByte s.cabinIndex, s.cabin.phase.code, s.cabin.marker.code, occupancyByte s.cabin.occupancy] ++
    optionalWord s.cabin.load ++ [flagByte [s.latched, s.cabin.dwell]]

/-- Fields of the drive role body (R64). -/
def State.driveFields (s : State) : List Byte :=
  [s.drive.state.code, s.drive.target.code, s.drive.demand.code,
    flagByte [DriveState.braking s.drive.state, s.stationary]]

/-- The zone fault kind as published (R103). -/
def Platform.faultCode (p : Platform) : Byte :=
  if p.orderFault then ZoneFaultKind.order.code
  else if p.indexFault then ZoneFaultKind.index.code
  else if p.phaseFault then ZoneFaultKind.phase.code
  else 0

/-- A zone entry as published (R103). -/
def ZoneEntry.bytes (e : ZoneEntry) : List Byte := [BitVec.ofNat 8 e.cabin, e.segment.code, e.mode.code]

/-- Fields of the platform role body (R103). -/
def State.platformFields (s : State) : List Byte :=
  let p := s.platform
  [BitVec.ofNat 8 p.zone.length, flagByte [p.boardingState, p.unloading, p.stopFlag], p.faultCode,
    (p.exitGate.state (s.gateClosed .exit)).code, (p.entryGate.state (s.gateClosed .entry)).code] ++
    p.zone.flatMap ZoneEntry.bytes

/-- Fields of the mast role body (R141). -/
def Wind.fields (w : Wind) : List Byte :=
  w.stage.code :: optionalWord w.gust ++ optionalWord w.sustained ++ [bitByte w.sensorFault]

/-- Fields of the console role body (R171). -/
def Console.fields (c : Console) : List Byte := [flagByte [c.stop, c.evac]]

/-- Vote, reasons and role body as the role sequencer would write them now. -/
def State.ownStatement (s : State) : Statement :=
  let say (v : Vote) (fields : List Byte) : Statement := ⟨v.level.code, v.reasons, s.role, fields⟩
  match s.role with
  | .cabin => say s.cabin.vote s.cabinFields
  | .platform => say s.platform.vote s.platformFields
  | .drive => say s.drive.vote s.driveFields
  | .mast => say s.wind.vote s.wind.fields
  | .console => say s.console.vote s.console.fields
  | .absent => ⟨Level.stop.code, 0, .absent, []⟩

/-- The role sequencer writes the working side of the own STATE (R37). -/
def State.writeWorking (s : State) : State := s.modRound fun r => { r with working := s.ownStatement }

/-- The gate commands and the working side follow what they depend on (R37, R114). -/
def State.refresh (s : State) : State := s.updateGates.writeWorking

/-- The marks the model keeps within one step are cleared (log 25). -/
def State.forget (s : State) : State :=
  (s.modStatus fun u => { u with fresh := 0 }).modPlatform fun p => { p with phaseFresh := false }

/-- The end of every command that has acted. -/
def State.settle (s : State) : State := s.refresh.forget

/-! ### How a command answers -/

/-- The three outcomes over this state. -/
abbrev Answered := Host.Outcome State Fault Refusal

/-- A command whose trigger is `guard`: it acts, or nothing changes (log 1). -/
def occurs (guard : State → Bool) (effect : State → State) (s : State) : Answered :=
  if s.resetHeld = false ∧ guard s = true then .next (effect s).settle else .next s

/-- The expiry of a running timer: the time it has left passes, and it acts (log 2). A stopped one does not expire. -/
def expires (timer : State → Option Nat) (effect : State → State) (s : State) : Answered :=
  match timer s with
  | none => .next s
  | some t => if s.resetHeld = false then .next (effect (s.elapse t)).settle else .next s

/-- The change of a field input to `level` on a station of `role` (R1, R2): an input that holds the level already has not
changed, nor has one whose last change is not 5 ms old; a line the role does not use is ignored, and in LOADING and
CONFIG_FAULT the level alone is kept (log 5). -/
def inputChange (role : Role) (line : Nat) (level : Bool) (effect : State → State) (s : State) : Answered :=
  if s.input line = level then .next s
  else if s.resetHeld = true then .next (s.setFi line level)
  else if s.filterPassed line = false then .next s
  else if s.mode.receiving = false then .next (s.takeInput line level)
  else if s.role = role then .next (effect (s.takeInput line level)).settle
  else .next s

/-- A field input that acts on becoming active and whose level nothing reads afterwards, on a station of `role`; one that
has not had the time to return and to come again since it last counted has not changed (R2, log 5). In LOADING and
CONFIG_FAULT it starts no filter, where `inputChange` does (the model's choice, log 5). -/
def inputPulse (role : Role) (line : Nat) (effect : State → State) : State → Answered :=
  occurs (fun s => s.mode.receiving && s.role == role && s.filterPassed line) fun s => effect (s.takePulse line)

end Sys2Proof.Machine
end

