-- ==== Sys2Proof/Machine/Cabin.lean ====
section
/-! DEFINITION. The Cabin Sequencer: phases, door and latch, weighing, position notices, asks (chapter 5). -/

namespace Sys2Proof.Machine

/-- The open and the close limit (R86, R87). -/
def moveLimit : Nat := sec 6
/-- The latch limit (R88). -/
def latchLimitTime : Nat := sec 1
/-- The re-close delay (R89). -/
def recloseTime : Nat := sec 3
/-- The weighing limit (R93). -/
def weighingTime : Nat := sec 3
/-- The dwell limit (R99). -/
def dwellTime : Nat := sec 240
/-- Kilograms of one person (R94). -/
def personMass : Nat := 80
/-- Below this load a cabin is empty, in kilograms (R94). -/
def emptyThreshold : Nat := 40
/-- Persons by which count and estimate may differ (R94). -/
def countTolerance : Nat := 3
/-- A negative load up to this is taken as 0, in kilograms (R93). -/
def negativeTolerance : Nat := 10

/-! ### Entering phases -/

/-- End an active dwell: its flag is cleared and its timer stopped (R99). -/
def Cabin.endDwell (c : Cabin) : Cabin := { c with dwell := false, dwellTimer := none }

/-- Every timer that belongs to a door action or a weighing is stopped, and no result is awaited (R86, R91). -/
def Cabin.stopTimers (c : Cabin) : Cabin :=
  { c with
    openLimit := none, closeLimit := none, latchLimit := none, recloseDelay := none, weighLimit := none
    awaiting := false }

/-- A NOTICE of the cabin, with the own cabin index (R167). -/
def State.cabinNotice (s : State) (kind : NoticeKind) (value1 value2 : Nat) : State :=
  s.notice kind s.cabinIndex value1 value2

/-- Entry to DOOR_FAULT (R91). -/
def Cabin.fault (c : Cabin) : Cabin := { c.stopTimers.endDwell with phase := .doorFault, action := .idle }

/-- The cabin enters DOOR_FAULT with a cause, and offers its notice with the phase the cause arose in (R91). -/
def State.doorFault (s : State) (cause : DoorCause) : State :=
  (s.modCabin Cabin.fault).cabinNotice .doorFault cause.code.toNat s.cabin.phase.code.toNat

/-- OPEN_END ends an opening (R86). -/
def Cabin.finishOpening (c : Cabin) : Cabin := { c with phase := .opened, action := .idle, openLimit := none }

/-- An opening begins (R86). -/
def Cabin.startOpening (c : Cabin) : Cabin :=
  { c.stopTimers with phase := .opening, action := .openMove, openLimit := some moveLimit, load := none, attempts := 0 }

/-- An opening begins, a door event; a door that stands open already is OPEN at once (R86, R92). -/
def State.beginOpening (s : State) : State :=
  let s := (s.modCabin Cabin.startOpening).restartConverter
  if s.openEnd then s.modCabin Cabin.finishOpening else s

/-- Entry to WEIGHING, with the door event of R92 (R93). -/
def State.beginWeighing (s : State) : State :=
  (s.modCabin fun c =>
    { c with phase := .weighing, action := .idle, latchLimit := none, awaiting := true
             weighLimit := some weighingTime }).restartConverter

/-- Entry to LATCH_WAIT; a latch engaged already leads on to WEIGHING (R88). -/
def State.beginLatchWait (s : State) : State :=
  let s := (s.modCabin fun c =>
    { c with action := .latchWait, closeLimit := none, latchLimit := some latchLimitTime }).restartConverter
  if s.latched then s.beginWeighing else s

/-- A close movement starts (R87). -/
def Cabin.startMovement (c : Cabin) : Cabin :=
  { c.endDwell with
    phase := .closing, attempts := c.attempts + 1, action := .closeMove, closeLimit := some moveLimit
    openLimit := none, recloseDelay := none }

/-- A close movement starts, a door event; a door on its closed end already passes on to the latch (R87, R92). -/
def State.beginMovement (s : State) : State :=
  let s := (s.modCabin Cabin.startMovement).restartConverter
  if s.closedEnd then s.beginLatchWait else s

/-- A close begins with a fresh count of attempts (R83, R98). -/
def State.beginClose (s : State) : State := (s.modCabin fun c => { c with attempts := 0 }).beginMovement

/-- OPEN_END ends a reversal: a further attempt after the delay, or DOOR_FAULT after the third (R89). -/
def State.finishReversal (s : State) : State :=
  let s := s.modCabin fun c => { c with openLimit := none }
  if s.cabin.attempts < 3 then
    s.modCabin fun c => { c with action := .recloseWait, recloseDelay := some recloseTime }
  else s.doorFault .obstruction

/-- An obstruction in CLOSE_MOVE reverses the door, a door event (R89, R92). -/
def State.reverse (s : State) : State :=
  let s := (s.modCabin fun c =>
    { c with action := .reverse, closeLimit := none, openLimit := some moveLimit }).restartConverter
  if s.openEnd then s.finishReversal else s

/-- The depart-pending mark is cleared; a depart mark count that runs goes on (R85, log 27). -/
def Cabin.clearDepart (c : Cabin) : Cabin := { c with departPending := false }

/-- The cabin enters READY; with the depart-pending mark set it passes at once to AWAY (R85, R93). -/
def Cabin.enterReady (c : Cabin) : Cabin :=
  if c.departPending then { c.clearDepart with phase := .away, action := .idle } else { c with phase := .ready }

/-! ### Weighing -/

/-- How a LOAD result is judged (R93): the load it gives, or none for WEIGH_FAULT. -/
def weighedLoad (r : Result) : Option Nat :=
  if r.overrange then none
  else
    match r.polarity with
    | .negative => if r.count / 4 > negativeTolerance then none else some 0
    | .positive => some (r.count / 4)

/-- The person estimate of a load: to the nearest whole person, a half rounded up (R94). -/
def personEstimate (load : Nat) : Nat := (load + personMass / 2) / personMass

/-- Occupancy and estimate differ by more than the tolerance (R94). -/
def countDoubtful (occupancy estimate : Nat) : Bool :=
  decide (occupancy + countTolerance < estimate) || decide (estimate + countTolerance < occupancy)

/-- The notices of a weighing that gave a load, in the order of R94; `entered` is the phase entered. -/
def State.weighedNotices (s : State) (load : Nat) (entered : Phase) : State :=
  let s :=
    if s.cabin.occupancy = none ∧ load < emptyThreshold then s.modCabin fun c => { c with occupancy := some 0 } else s
  let s :=
    match s.cabin.occupancy with
    | none => s
    | some n =>
      if countDoubtful n (personEstimate load) then s.cabinNotice .countDoubt n (personEstimate load) else s
  s.cabinNotice .weighed load entered.code.toNat

/-- The weighing has found a fault: OVERLOADED with WEIGH_FAULT, the load absent (R93). At the weighing limit, too, the
awaiting-result mark is cleared (the model's choice, log 39). -/
def State.weighingFails (s : State) : State :=
  s.modCabin fun c =>
    { c with phase := .overloaded, action := .idle, weighFault := true, load := none, awaiting := false
             weighLimit := none }

/-- A result is taken as the weighing (R93, R94). -/
def State.judgeWeighing (s : State) (r : Result) : State :=
  match weighedLoad r with
  | none => s.weighingFails
  | some load =>
    let s := s.modCabin fun c => { c with awaiting := false, weighLimit := none, load := some load }
    if load ≤ s.settings.loadLimit then
      (s.modCabin Cabin.enterReady).weighedNotices load .ready
    else
      (s.modCabin fun c => { c with phase := .overloaded, weighFault := false }).weighedNotices load .overloaded

/-- A result delivered to the Cabin Sequencer: used in WEIGHING while one is awaited and its mode is LOAD (R93, R153). -/
def State.deliverLoad (s : State) (r : Result) : State :=
  if s.cabin.phase = .weighing ∧ s.cabin.awaiting ∧ r.mode = .load then s.judgeWeighing r else s

/-! ### Position notices (R81 to R85) -/

/-- The last marker is set. -/
def State.setMarker (s : State) (m : Marker) : State := s.modCabin fun c => { c with marker := m }

/-- ARRIVE (R82); a mode code that names no mode is taken as PASS. -/
def State.onArrive (s : State) (value1 : Nat) : State :=
  let s := s.setMarker .arrive
  match s.cabin.phase with
  | .away | .ready | .passing =>
    match ArrivalMode.ofValue value1 with
    | some .normal | some .exitOnly => s.beginOpening
    | some .pass | none => s.modCabin fun c => { c with phase := .passing, action := .idle }
  | .opening | .opened | .closing | .weighing | .overloaded | .doorFault => s

/-- TURN (R81). -/
def State.onTurn (s : State) : State := s.setMarker .turn

/-- CLOSE (R83); a value above 63 is taken as UNKNOWN. -/
def State.onClose (s : State) (value1 : Nat) : State :=
  let s := (s.setMarker .close).modCabin fun c => { c with occupancy := if value1 ≤ 63 then some value1 else none }
  match s.cabin.phase with
  | .opening | .opened => s.beginClose
  | .away | .passing | .closing | .weighing | .ready | .overloaded | .doorFault => s

/-- A DEPART finds the cabin not ready to leave (R84, R85): the depart-pending mark is set, with its notice where it was
clear; taken in AWAY, the depart mark count starts. -/
def State.departUnready (s : State) : State :=
  let phase := s.cabin.phase
  let was := s.cabin.departPending
  let s := s.modCabin fun c =>
    { c with
      departPending := true
      departCount := if phase = .away then 0 else c.departCount
      departCounting := phase == .away || c.departCounting }
  if was then s else s.cabinNotice .doorFault DoorCause.departUnready.code.toNat phase.code.toNat

/-- DEPART (R84). -/
def State.onDepart (s : State) : State :=
  let s := s.setMarker .depart
  match s.cabin.phase with
  | .ready | .passing => s.modCabin fun c => { c with phase := .away, action := .idle }
  | .away | .opening | .opened | .closing | .weighing | .overloaded | .doorFault => s.departUnready

/-- A NOTICE delivered to the Cabin Sequencer (R81, R168): a position notice with the own cabin index from the PLATFORM
station; any other is ignored. -/
def State.takePositionNotice (s : State) (sender : Nat) (body : List Byte) : State :=
  if s.roleAt sender = .platform ∧ s.cabinIndex = some (byteAt body 1).toNat then
    match NoticeKind.ofCode (byteAt body 0) with
    | some .arrive => s.onArrive (ofTwoBytes (byteAt body 2) (byteAt body 3))
    | some .turn => s.onTurn
    | some .close => s.onClose (ofTwoBytes (byteAt body 2) (byteAt body 3))
    | some .depart => s.onDepart
    | some .cabinCall | some .doorFault | some .windStage | some .driveFault | some .zoneFault | some .gateFault
    | some .dwellExpired | some .countDoubt | some .weighed | none => s
  else s

/-- The depart mark count has reached 2: the trigger of DEPART_MARK_COUNT_END. -/
def State.departCountEnded (s : State) : Bool := s.cabin.departCounting && decide (2 ≤ s.cabin.departCount)

/-- DEPART_MARK_COUNT_END (R85): the count ends, and the mark is cleared in AWAY or PASSING. -/
def Cabin.endDepartCount (c : Cabin) : Cabin :=
  { c with
    departCounting := false
    departPending := if c.phase = .away ∨ c.phase = .passing then false else c.departPending }

/-- The depart mark count at a mark (R85). -/
def State.cabinMark (s : State) : State :=
  if s.cabin.departCounting then
    let s := s.modCabin fun c => { c with departCount := c.departCount + 1 }
    if s.departCountEnded then s.modCabin Cabin.endDepartCount else s
  else s

/-! ### Asks taken at the cabin (R96 to R99) -/

/-- DOOR_OPEN (R97). -/
def State.askDoorOpen (s : State) : Answer × State :=
  match s.cabin.phase with
  | .away => (.refused .notInZone, s)
  | .opening | .opened => (.accepted, s)
  | .passing | .closing | .weighing | .ready | .overloaded | .doorFault =>
    if s.cabin.marker.afterClose = false then (.accepted, s.beginOpening)
    else if s.mode = .joined ∧ s.agreement.level = .stop then (.accepted, s.beginOpening)
    else (.refused .tooLate, s)

/-- DOOR_CLOSE (R98). -/
def State.askDoorClose (s : State) : Answer × State :=
  match s.cabin.phase with
  | .opening | .opened | .doorFault => (.accepted, s.beginClose)
  | .closing => (.accepted, s)
  | .away | .passing | .weighing | .ready | .overloaded => (.refused .notApplicable, s)

/-- DWELL (R99). -/
def State.askDwell (s : State) : Answer × State :=
  if Phase.opening? s.cabin.phase ∧ s.cabin.marker.afterClose = false then
    (.accepted, s.modCabin fun c => { c with dwell := true, dwellTimer := some dwellTime })
  else (.refused .tooLate, s)

/-- DWELL_END (R99). -/
def State.askDwellEnd (s : State) : Answer × State :=
  if s.cabin.dwell then (.accepted, s.modCabin Cabin.endDwell) else (.refused .notApplicable, s)

/-! ### Start (R102) -/

/-- The cabin's phase on entry to LISTENING from LOADING (R102). -/
def State.cabinStart (s : State) : State :=
  if s.latched then s.modCabin fun c => { c with phase := .away } else s.doorFault .latchLost

/-! ### The door's inputs and timers -/

/-- OPEN_END becomes active, a door event in any phase (R86, R89, R92). -/
def State.onOpenEnd (s : State) : State :=
  let s := s.restartConverter
  match s.cabin.action with
  | .openMove => s.modCabin Cabin.finishOpening
  | .reverse => s.finishReversal
  | .idle | .closeMove | .latchWait | .recloseWait => s

/-- CLOSED_END becomes active, a door event in any phase (R87, R92). -/
def State.onClosedEnd (s : State) : State :=
  let s := s.restartConverter
  match s.cabin.action with
  | .closeMove => s.beginLatchWait
  | .idle | .openMove | .latchWait | .reverse | .recloseWait => s

/-- LATCHED becomes active (R88). -/
def State.onLatched (s : State) : State :=
  match s.cabin.action with
  | .latchWait => s.beginWeighing
  | .idle | .openMove | .closeMove | .reverse | .recloseWait => s

/-- LATCHED goes inactive (R90). -/
def State.onUnlatched (s : State) : State :=
  match s.cabin.phase with
  | .away | .passing | .weighing | .ready | .overloaded => s.doorFault .latchLost
  | .opening | .opened | .closing | .doorFault => s

/-- OBSTRUCTION becomes active (R89). -/
def State.onObstruction (s : State) : State :=
  match s.cabin.action with
  | .closeMove => s.reverse
  | .idle | .openMove | .latchWait | .reverse | .recloseWait => s

/-- OPEN_END_ACTIVE (R86). -/
def execOpenEndActive (level : Bool) (s : State) : Answered :=
  inputChange .cabin 0 level (if level then State.onOpenEnd else id) s

/-- CLOSED_END_ACTIVE (R87). -/
def execClosedEndActive (s : State) : Answered := inputChange .cabin 1 true State.onClosedEnd s

/-- CLOSED_END_INACTIVE (R88): the latch wait runs on. -/
def execClosedEndInactive (s : State) : Answered := inputChange .cabin 1 false id s

/-- LATCHED_ACTIVE (R88). -/
def execLatchedActive (s : State) : Answered := inputChange .cabin 2 true State.onLatched s

/-- LATCHED_INACTIVE (R90). -/
def execLatchedInactive (s : State) : Answered := inputChange .cabin 2 false State.onUnlatched s

/-- OBSTRUCTION_ACTIVE (R89). -/
def execObstructionActive (level : Bool) (s : State) : Answered :=
  inputChange .cabin 3 level (if level then State.onObstruction else id) s

/-- OPEN_LIMIT_EXPIRY (R86, R89). -/
def execOpenLimitExpiry (s : State) : Answered :=
  expires (fun s => s.cabin.openLimit) (fun s => s.doorFault .openLimit) s

/-- CLOSE_LIMIT_EXPIRY (R87). -/
def execCloseLimitExpiry (s : State) : Answered :=
  expires (fun s => s.cabin.closeLimit) (fun s => s.doorFault .closeLimit) s

/-- LATCH_LIMIT_EXPIRY (R88). -/
def execLatchLimitExpiry (s : State) : Answered :=
  expires (fun s => s.cabin.latchLimit) (fun s => s.doorFault .latchLimit) s

/-- RECLOSE_DELAY_EXPIRY (R89): a new movement, or a further delay while OBSTRUCTION is active. -/
def execRecloseDelayExpiry (s : State) : Answered :=
  expires (fun s => s.cabin.recloseDelay)
    (fun s =>
      if s.obstruction then s.modCabin fun c => { c with recloseDelay := some recloseTime } else s.beginMovement)
    s

/-- WEIGHING_LIMIT_EXPIRY (R93). -/
def execWeighingLimitExpiry (s : State) : Answered :=
  expires (fun s => s.cabin.weighLimit) State.weighingFails s

/-- DWELL_TIMER_EXPIRY (R100). -/
def execDwellTimerExpiry (s : State) : Answered :=
  expires (fun s => s.cabin.dwellTimer) (fun s => (s.modCabin Cabin.endDwell).cabinNotice .dwellExpired 0 0) s

/-- CALL_KEY_ACTIVE (R101). -/
def execCallKeyActive (s : State) : Answered :=
  inputPulse .cabin 4
    (fun s => s.cabinNotice .cabinCall s.cabin.phase.code.toNat (occupancyValue s.cabin.occupancy)) s

/-- DEPART_MARK_COUNT_END (R85). -/
def execDepartMarkCountEnd (s : State) : Answered :=
  occurs (fun s => s.role == .cabin && s.departCountEnded) (fun s => s.modCabin Cabin.endDepartCount) s

end Sys2Proof.Machine
end

