-- ==== Sys2Proof/Machine/Capture.lean ====
section
/-! DEFINITION. The Capture Store: the ring of 32 slots, the selectors, the congested decision (section 11.4). -/

namespace Sys2Proof.Machine

/-- READER slots (R190). -/
def CaptureStore.readers (u : CaptureStore) : Nat := (u.slots.filter Slot.reader).length

/-- DEVICE slots (R190). -/
def CaptureStore.devices (u : CaptureStore) : Nat := (u.slots.filter fun x => !x.reader).length

/-- The subkind of a frame: a notice's or an ask's kind code (R191). -/
def subkindOf (header : Byte) (body : List Byte) : Option Nat :=
  match classOfHeader header with
  | some .essential | some .info => some (byteAt body 0).toNat
  | some .ask => some (byteAt body 1).toNat
  | some .mark | some .state | some .reply | none => none

/-- A frame matches a selector (R191). -/
def Selector.accepts (sel : Selector) (header sender : Byte) (body : List Byte) : Bool :=
  (match sel.kind with
    | none => true
    | some k => (classOfHeader header).map FrameClass.kind == some k) &&
  (match sel.sender with
    | none => true
    | some n => sender.toNat == n) &&
  (match sel.subkind with
    | none => true
    | some k => subkindOf header body == some k)

/-- Some selector is in use (R191). -/
def CaptureStore.selecting (u : CaptureStore) : Bool := u.selectors.any Option.isSome

/-- A frame is to be captured: no selector is in use, or one in use accepts it (R191). -/
def CaptureStore.wants (u : CaptureStore) (header sender : Byte) (body : List Byte) : Bool :=
  !u.selecting ||
    u.selectors.any fun sel =>
      match sel with
      | none => false
      | some x => x.accepts header sender body

/-- The next place of the ring (R190). -/
def nextPlace (n : Nat) : Nat := (n + 1) % 32

/-- Write a capture at the write place, which moves on one slot; the slot becomes READER (R190, R191). -/
def CaptureStore.write (c : Capture) (u : CaptureStore) : CaptureStore :=
  { u with slots := u.slots.set u.writePlace ⟨true, c⟩, writePlace := nextPlace u.writePlace }

/-- A frame is offered to the Capture Store (R191): with the switch on and a selector accepting it, it takes the next
sequence number and is written, or dropped where no DEVICE slot is left. -/
def State.offerCapture (s : State) (header sender round : Byte) (body : List Byte) (own : Bool) : State :=
  if s.capture.on && s.capture.wants header sender body then
    let seq := s.capture.sequence
    let s := s.modCapture fun u => { u with sequence := u.sequence + 1 }
    if s.capture.devices = 0 then (s.bump .captureDrops).setFlag .captureFull
    else (s.modCapture (CaptureStore.write ⟨seq, round, header, sender, own, body⟩)).noteCapture
  else s

/-- Return the oldest READER slots to DEVICE, up to `n` of them (R190, R192). -/
def CaptureStore.release : Nat → CaptureStore → CaptureStore
  | 0, u => u
  | n + 1, u =>
    match u.slots[u.releasePlace]? with
    | some ⟨true, c⟩ =>
      CaptureStore.release n
        { u with slots := u.slots.set u.releasePlace ⟨false, c⟩, releasePlace := nextPlace u.releasePlace }
    | some ⟨false, _⟩ | none => u

/-- The capture in the `k`-th oldest READER slot (R186, R192). -/
def CaptureStore.reading (u : CaptureStore) (k : Nat) : Option Capture :=
  if k < u.readers then (u.slots[(u.releasePlace + k) % 32]?).map Slot.capture else none

/-- The congested decision at a mark (R193). -/
def State.decideCongested (s : State) : State :=
  s.modCapture fun u => { u with congested := u.devices ≤ s.settings.congestion }

end Sys2Proof.Machine
end

