-- ==== Sys2Proof/Machine/Drive.lean ====
section
/-! DEFINITION. The Drive Sequencer (section 3.4). -/

namespace Sys2Proof.Machine

/-- The release timer (R56). -/
def releaseTime : Nat := sec 2
/-- The brake-check timer (R62). -/
def brakeCheckTime : Nat := sec 2
/-- The fault-clear timer (R63). -/
def faultClearTime : Nat := sec 5

/-- The conditions of the fault-clear timer hold (R63). -/
def State.driveClear (s : State) : Bool := !s.driveFaultInput && s.stationary && !s.brakeReleased

/-- The fault-clear timer follows its conditions while FAULTED: it starts when they come to hold and stops when one
ceases (R63). -/
def State.watchFaultClear (s : State) : State :=
  s.modDrive fun d =>
    if d.state = .faulted ∧ s.driveClear then
      { d with faultClearTimer := some (d.faultClearTimer.getD faultClearTime) }
    else { d with faultClearTimer := none }

/-- The brake-check timer on entry to BRAKED or FAULTED (R62). -/
def State.startBrakeCheck (s : State) : State :=
  s.modDrive fun d => { d with brakeCheckTimer := if s.brakeReleased then some brakeCheckTime else none }

/-- Entry to BRAKED: demand STOP, release-confirm count 0, the timers of other states stopped (R54, R56, R62). -/
def State.enterBraked (s : State) : State :=
  (s.modDrive fun d =>
    { d with
      state := .braked, demand := .stop, confirm := 0, releaseTimer := none, stopTimer := none
      faultClearTimer := none }).startBrakeCheck

/-- The DRIVE_FAULT notice (R61): the reason added, by its bit number, and the state at the cause. -/
def State.driveFaultNotice (s : State) (r : Reason) (at_ : DriveState) : State :=
  s.notice .driveFault none r.bit at_.code.toNat

/-- A fault cause reaches the drive (R61, R62): from another state it enters FAULTED; in FAULTED the reason is added, with
a notice if it is new. -/
def State.driveFails (s : State) (r : Reason) : State :=
  let from_ := s.drive.state
  if from_ = .faulted then
    if hasReason s.drive.reasons r then s
    else (s.modDrive fun d => { d with reasons := d.reasons ||| r.mask }).driveFaultNotice r from_
  else
    ((((s.modDrive fun d =>
      { d with
        state := .faulted, demand := .stop, confirm := 0, reasons := r.mask, releaseTimer := none
        stopTimer := none }).startBrakeCheck).watchFaultClear).driveFaultNotice r from_)

/-- Entry to MOVING with the target level as demand (R57). -/
def State.enterMoving (s : State) : State :=
  s.modDrive fun d => { d with state := .moving, demand := d.target, releaseTimer := none }

/-- Entry to STOPPING; a rim already at rest passes at once to BRAKED (R58, R59). -/
def State.enterStopping (s : State) : State :=
  let s := s.modDrive fun d =>
    { d with state := .stopping, demand := .stop, stopTimer := some (sec s.settings.stopTimeout) }
  if s.stationary then s.enterBraked else s

/-- RELEASE_CONFIRMED (R56): the drive enters RELEASING, and MOVING at once where the brake reports released. -/
def State.release (s : State) : State :=
  let s := s.modDrive fun d =>
    { d with state := .releasing, confirm := 0, releaseTimer := some releaseTime, brakeCheckTimer := none }
  if s.brakeReleased then s.enterMoving else s

/-- The release-confirm count has reached its number in BRAKED: the trigger of RELEASE_CONFIRMED. -/
def State.releaseConfirmed (s : State) : Bool :=
  s.drive.state == .braked && decide (s.settings.releaseConfirm ≤ s.drive.confirm)

/-- BRAKED at a mark (R56). -/
def State.confirmRelease (s : State) (go : Bool) : State :=
  let s := s.modDrive fun d => { d with confirm := if go then d.confirm + 1 else 0 }
  if s.releaseConfirmed then s.release else s

/-- The drive's work at a mark, from the agreement record as the mark has left it (R55 to R59, R64). -/
def State.driveMark (s : State) : State :=
  let level := s.agreement.level
  let skew := s.agreement.skew
  let go := s.mode == .joined && level != .stop && !skew
  let s := s.modDrive fun d => { d with target := level, skewFound := skew }
  match s.drive.state with
  | .braked => s.confirmRelease go
  | .releasing => if level = .stop ∨ skew then s.enterBraked else s
  | .moving => if level = .stop ∨ skew then s.enterStopping else s.modDrive fun d => { d with demand := level }
  | .stopping => s
  | .faulted => s

/-- A round loss, or leaving JOINED (R60). -/
def State.driveLoss (s : State) : State :=
  match s.drive.state with
  | .braked => s.modDrive fun d => { d with confirm := 0 }
  | .releasing => s.enterBraked
  | .moving => s.enterStopping
  | .stopping => s
  | .faulted => s

/-- The drive reads its inputs on entry to LISTENING from LOADING (R65). -/
def State.driveStart (s : State) : State :=
  let s := s.startBrakeCheck
  if s.driveFaultInput then s.driveFails .driveFault else s

/-- DRIVE_FAULT becomes active (R61, R63). -/
def State.onDriveFault (s : State) : State := (s.driveFails .driveFault).watchFaultClear

/-- BRAKE_RELEASED becomes active: in RELEASING it leads to MOVING; under an applied brake it starts the brake check
(R57, R62, R63). -/
def State.onBrakeReleased (s : State) : State :=
  match s.drive.state with
  | .releasing => s.enterMoving
  | .braked => s.startBrakeCheck
  | .faulted => s.startBrakeCheck.watchFaultClear
  | .moving | .stopping => s

/-- BRAKE_RELEASED goes inactive: the brake check stops; in MOVING the brake has closed on a turning rim (R58, R62,
R63). -/
def State.onBrakeClosed (s : State) : State :=
  let s := s.modDrive fun d => { d with brakeCheckTimer := none }
  match s.drive.state with
  | .moving => s.driveFails .brake
  | .faulted => s.watchFaultClear
  | .braked | .releasing | .stopping => s

/-- STATIONARY becomes active (R59, R63). -/
def State.onStationary (s : State) : State :=
  match s.drive.state with
  | .stopping => s.enterBraked
  | .faulted => s.watchFaultClear
  | .braked | .releasing | .moving => s

/-- DRIVE_FAULT_ACTIVE (R61). -/
def execDriveFaultActive (s : State) : Answered := inputChange .drive 2 true State.onDriveFault s

/-- DRIVE_FAULT_INACTIVE (R63). -/
def execDriveFaultInactive (s : State) : Answered := inputChange .drive 2 false State.watchFaultClear s

/-- BRAKE_RELEASED_ACTIVE (R57, R62). -/
def execBrakeReleasedActive (s : State) : Answered := inputChange .drive 0 true State.onBrakeReleased s

/-- BRAKE_RELEASED_INACTIVE (R58, R62). -/
def execBrakeReleasedInactive (s : State) : Answered := inputChange .drive 0 false State.onBrakeClosed s

/-- STATIONARY_ACTIVE (R59, R63). -/
def execStationaryActive (s : State) : Answered := inputChange .drive 1 true State.onStationary s

/-- STATIONARY_INACTIVE (R63). -/
def execStationaryInactive (s : State) : Answered := inputChange .drive 1 false State.watchFaultClear s

/-- RELEASE_TIMER_EXPIRY (R57, R61). -/
def execReleaseTimerExpiry (s : State) : Answered :=
  expires (fun s => s.drive.releaseTimer) (fun s => s.driveFails .brake) s

/-- STOP_TIMER_EXPIRY (R59, R61). -/
def execStopTimerExpiry (s : State) : Answered :=
  expires (fun s => s.drive.stopTimer) (fun s => s.driveFails .stopOverrun) s

/-- BRAKE_CHECK_TIMER_EXPIRY (R62): in BRAKED a fault, in FAULTED one more reason; the expired timer is stopped, and a
fault entry starts it afresh where the brake still reports released. -/
def execBrakeCheckTimerExpiry (s : State) : Answered :=
  expires (fun s => s.drive.brakeCheckTimer)
    (fun s => (s.modDrive fun d => { d with brakeCheckTimer := none }).driveFails .brake) s

/-- FAULT_CLEAR_TIMER_EXPIRY (R63). -/
def execFaultClearTimerExpiry (s : State) : Answered :=
  expires (fun s => s.drive.faultClearTimer)
    (fun s => (s.modDrive fun d => { d with reasons := 0 }).enterBraked) s

/-- RELEASE_CONFIRMED (R56). -/
def execReleaseConfirmed (s : State) : Answered :=
  occurs (fun s => s.role == .drive && s.releaseConfirmed) State.release s

end Sys2Proof.Machine
end

