-- ==== Sys2Proof/Machine/Zone.lean ====
section
/-! DEFINITION. The platform's zone queue, zone faults, departure watch and boarding conditions, as far as they need no ask
(sections 6.1, 6.5 to 6.9). -/

namespace Sys2Proof.Machine

/-- Change the zone entry at a place of the queue. -/
def State.modZone (s : State) (place : Nat) (f : ZoneEntry → ZoneEntry) : State :=
  s.modPlatform fun p =>
    match p.zone[place]? with
    | some e => { p with zone := p.zone.set place (f e) }
    | none => p

/-- The station that owns a cabin index in the roster (R104, R105). -/
def State.ownerOf (s : State) (cabin : Nat) : Option Nat :=
  s.roster.findIdx? fun e => e.role == .cabin && e.cabin == some cabin

/-- A zone fault is raised: its kind joins the set and a ZONE_FAULT notice is offered (R122); 255 stands for no cabin. -/
def State.raiseZoneFault (s : State) (kind : ZoneFaultKind) (cabin : Option Nat) (value2 : Nat) : State :=
  (s.modPlatform fun p =>
    match kind with
    | .order => { p with orderFault := true }
    | .index => { p with indexFault := true }
    | .phase => { p with phaseFault := true, phaseFresh := true }).notice .zoneFault cabin kind.code.toNat value2

/-- The value 2 of an ORDER fault at a rebuild (12.5). -/
def rebuildCode : Nat := 5

/-! ### Ask marks (R118) -/

/-- An ask to a cabin marks a zone entry of that owner (R118). -/
def ZoneEntry.noteAsk (kind : AskKind) (target : Nat) (e : ZoneEntry) : ZoneEntry :=
  if e.owner ≠ target then e
  else
    match kind with
    | .doorClose => if e.segment = .closing then e else { e with closedByAsk := true }
    | .doorOpen => if e.segment = .closing ∨ e.mode = .pass then { e with openedByAsk := true } else e
    | .dwell | .dwellEnd | .boardingOpen | .boardingShut | .zoneClear | .windResume => e

/-- On a PLATFORM station an ask, heard or offered, sets the ask marks (R118). -/
def State.noteAsk (s : State) (kind : AskKind) (target : Nat) : State :=
  if s.role = .platform then s.modPlatform fun p => { p with zone := p.zone.map (ZoneEntry.noteAsk kind target) }
  else s

/-! ### Fallback outcomes (R121) -/

/-- The zone entry whose PENDING fallback the ask entry `n` carries (log 14). -/
def ZoneEntry.awaits (n : Nat) (e : ZoneEntry) : Bool :=
  match e.fallback with
  | .pending _ m => m == n
  | .unused | .due | .used => false

/-- The ask kind of a PENDING fallback. -/
def Fallback.kind? : Fallback → Option AskKind
  | .pending k _ => some k
  | .unused | .due | .used => none

/-- The end of the fallback ask in ask entry `n` is reported (R121): ACCEPTED gives the entry a fresh start, any other
outcome raises a PHASE fault; an entry gone or moved on is not concerned. -/
def State.fallbackEnded (s : State) (n : Nat) (accepted : Bool) : State :=
  match s.platform.zone.findIdx? (ZoneEntry.awaits n) with
  | none => s
  | some place =>
    match s.platform.zone[place]? with
    | none => s
    | some e =>
      if accepted then s.modZone place fun e => { e with fallback := .used, mismatch := 0, settle := true }
      else
        (s.modZone place fun e => { e with fallback := .used }).raiseZoneFault .phase (some e.cabin)
          (match e.fallback.kind? with
            | some k => k.code.toNat
            | none => 0)

/-! ### Clearing the zone (R122) -/

/-- The zone is cleared by ask or key (R122). -/
def State.clearZone (s : State) : State :=
  s.modPlatform fun p => { p with zone := [], orderFault := false, indexFault := false, watch := [] }

/-! ### Boarding (R116, R117) -/

/-- How a mast counts for the platform: HOLD while SILENT, without a last role body, or with a code that names no stage
(R117, log 26). -/
def RosterEntry.mastStage (e : RosterEntry) : Stage :=
  if e.silent then .hold
  else
    match e.last with
    | none => .hold
    | some b => (Stage.ofCode (byteAt b.fields 0)).getD .hold

/-- The evac flag in a console's last role body (R117, R172). -/
def RosterEntry.evac (e : RosterEntry) : Bool :=
  match e.last with
  | none => false
  | some b => (byteAt b.fields 0).getLsbD 1

/-- An unloading run is in force (R117). -/
def State.unloadingRun (s : State) : Bool :=
  s.roster.any fun e => (e.role == .mast && e.mastStage == .clear) || (e.role == .console && e.evac)

/-- A mast counts as HOLD, CLEAR or SHUT (R117). -/
def State.windBars (s : State) : Bool :=
  s.roster.any fun e =>
    e.role == .mast && (e.mastStage == .hold || e.mastStage == .clear || e.mastStage == .shut)

/-- Boarding open and the unloading flag are worked out (R117). -/
def State.workBoarding (s : State) : State :=
  s.modPlatform fun p =>
    { p with
      unloading := s.unloadingRun
      boardingOpen := p.boardingState && !s.windBars && !s.unloadingRun }

/-- The boarding state is set by key or ask; one that holds already changes nothing (R116, R117). -/
def State.setBoarding (s : State) (on : Bool) : State :=
  if s.platform.boardingState = on then s
  else (s.modPlatform fun p => { p with boardingState := on }).workBoarding

/-! ### Departure watch (R111) -/

/-- A watched cabin has shown AWAY and is not AGED (R111). -/
def State.departed (s : State) (w : Watched) : Bool :=
  (s.record w.cabin).phase == .away && !s.aged (s.record w.cabin)

/-- A watched cabin's count has reached 2 and its unready mark is not set: the trigger of DEPARTURE_UNREADY. -/
def Watched.due (w : Watched) : Bool := decide (2 ≤ w.marks) && !w.unready

/-- DEPARTURE_UNREADY (R111). -/
def Watched.setUnready (w : Watched) : Watched := { w with unready := true }

/-- A watched cabin counts a mark (R111). -/
def Watched.count (w : Watched) : Watched :=
  let w := { w with marks := min 2 (w.marks + 1) }
  if w.due then w.setUnready else w

/-- The departure watch at a mark (R111). -/
def State.watchMark (s : State) : State :=
  s.modPlatform fun p =>
    { p with watch := (p.watch.filter fun w => !s.departed w).map Watched.count }

end Sys2Proof.Machine
end

