-- ==== Sys2Proof/Machine/Asks.lean ====
section
/-! DEFINITION. The Ask Table (section 9.1). -/

namespace Sys2Proof.Machine

/-- An entry is in use (9.1). -/
def AskEntry.inUse (e : AskEntry) : Bool := e.state != .free

/-- Change one ask entry. -/
def State.modAsk (s : State) (n : Nat) (f : AskEntry → AskEntry) : State :=
  s.modAsks fun a =>
    match a.entries[n]? with
    | some e => { a with entries := a.entries.set n (f e) }
    | none => a

/-- No entry in use holds the tag. -/
def AskTable.tagFree (a : AskTable) (tag : Nat) : Bool := !a.entries.any fun e => e.inUse && e.tag == tag

/-- The first free tag counting upward modulo 16, within `fuel` steps (R157). -/
def AskTable.pickTag (a : AskTable) : Nat → Nat → Nat
  | 0, tag => tag
  | fuel + 1, tag => if a.tagFree tag then tag else a.pickTag fuel ((tag + 1) % 16)

/-- How an ask offer ended (R157). -/
inductive AskOffered where
  | noStation
  | full
  | taken (entry tag : Nat)
  deriving DecidableEq, Repr

/-- The end of an ask is reported to its origin (R161): only FALLBACK asks have a taker. -/
def State.askEnded (s : State) (n : Nat) (accepted : Bool) : State :=
  match s.asks.entries[n]? with
  | none => s
  | some e =>
    match e.origin with
    | .fallback => s.fallbackEnded n accepted
    | .tap | .key => s

/-- An ask's frame did not reach the line: its entry is FAILED (R158, R161). -/
def State.askFailed (s : State) (n : Nat) : State :=
  (s.modAsk n fun e => { e with state := .failed }).askEnded n false

/-- The QUEUED entry that a queued ASK frame belongs to: the tag of its body (R157, R158). -/
def State.askOfBody (s : State) (body : List Byte) : Option Nat :=
  s.asks.entries.findIdx? fun e => e.state == .queued && e.tag == (byteAt body 2).toNat

/-- The Line Controller reports an ASK discarded (R158). -/
def State.askDiscarded (s : State) (body : List Byte) : State :=
  match s.askOfBody body with
  | none => s
  | some n => s.askFailed n

/-- The Line Controller reports an ASK sent (R158). -/
def State.askSent (s : State) (body : List Byte) : State :=
  match s.askOfBody body with
  | none => s
  | some n => s.modAsk n fun e => { e with state := .waiting, marks := 0 }

/-- What the Ask Table would do with an offer (R157). -/
def State.askVerdict (s : State) (target : Nat) : AskOffered :=
  if target = s.station ∨ s.roleAt target = .absent then .noStation
  else
    match s.asks.entries.findIdx? fun e => e.state == .free with
    | none => .full
    | some n => .taken n (s.asks.pickTag 16 s.asks.tagCounter)

/-- Write a taken offer into its entry (R157). -/
def State.takeAsk (s : State) (n tag : Nat) (origin : AskOrigin) (kind : AskKind) (target : Nat) (argument : Word) :
    State :=
  (s.modAsk n fun _ => ⟨.queued, origin, kind, target, argument, tag, 0, none, none⟩).modAsks fun a =>
    { a with tagCounter := (tag + 1) % 16 }

/-- Offer the ASK frame of a taken ask; one discarded on the offer fails at once (R157, R158). -/
def State.offerAskFrame (s : State) (n tag : Nat) (kind : AskKind) (target : Nat) (argument : Word) : State :=
  match s.offer .ask (askBody target kind tag argument) none with
  | (true, t) => t
  | (false, t) => t.askFailed n

/-- An ask is offered to the Ask Table (R157): refused locally, or taken, shown to the platform's ask marks, and its frame
queued. `before` is what the offering block notes of a taken ask before the frame's fate is known. -/
def State.offerAsk (s : State) (origin : AskOrigin) (kind : AskKind) (target : Nat) (argument : Word)
    (before : Nat → State → State) : AskOffered × State :=
  match s.askVerdict target with
  | .noStation => (.noStation, s)
  | .full => (.full, s)
  | .taken n tag =>
    (.taken n tag,
      (before n ((s.takeAsk n tag origin kind target argument).noteAsk kind target)).offerAskFrame n tag kind target
        argument)

/-! ### Marks (R160, R162) -/

/-- Entries that had ended before this mark become FREE (R162); a FREE entry keeps no fields. -/
def AskEntry.freeAtMark (e : AskEntry) : AskEntry :=
  match e.state with
  | .answered | .expired | .failed => AskEntry.blank
  | .free | .queued | .waiting => e

/-- A WAITING entry counts a mark (R160). -/
def AskEntry.countMark (e : AskEntry) : AskEntry :=
  match e.state with
  | .waiting => { e with marks := e.marks + 1 }
  | .free | .queued | .answered | .expired | .failed => e

/-- A WAITING entry whose marks have reached 2: the trigger of ASK_EXPIRY. -/
def AskEntry.expiring (e : AskEntry) : Bool := e.state == .waiting && decide (2 ≤ e.marks)

/-- The trigger of ASK_EXPIRY stands for an entry. -/
def State.askExpiring (s : State) (n : Nat) : Bool :=
  match s.asks.entries[n]? with
  | none => false
  | some e => e.expiring

/-- ASK_EXPIRY (R160, R161). -/
def State.expireAsk (s : State) (n : Nat) : State :=
  ((s.modAsk n fun e => { e with state := .expired }).bump .askExpired).askEnded n false

/-- Expire an entry whose trigger stands. -/
def State.expireIfDue (s : State) (n : Nat) : State := if s.askExpiring n then s.expireAsk n else s

/-- The Ask Table at a mark: freeing, then counting and expiry (R160, R162). The entries that expire are reported from
entry 0 to entry 3 (the model's choice, log 40). -/
def State.askMark (s : State) : State :=
  let s := s.modAsks fun a =>
    { a with entries := a.entries.map fun e => AskEntry.countMark (AskEntry.freeAtMark e) }
  (((s.expireIfDue 0).expireIfDue 1).expireIfDue 2).expireIfDue 3

/-! ### Replies (R159) -/

/-- Outcome and reason as recorded (R159). -/
def replyOutcome (outcome reason : Byte) : Bool × Option ReplyReason :=
  if outcome = 0 then (true, none)
  else if outcome = 1 then (false, some ((ReplyReason.ofCode reason).getD .notApplicable))
  else (false, some .notApplicable)

/-- The WAITING entry that a REPLY matches. -/
def State.replyEntry (s : State) (sender tag : Nat) : Option Nat :=
  s.asks.entries.findIdx? fun e => e.state == .waiting && e.tag == tag && e.target == sender

/-- A late reply is counted (R159). -/
def State.countLate (s : State) : State := s.modAsks fun a => { a with lateReply := raisedCount a.lateReply }

/-- A REPLY delivered to the Ask Table (R159). -/
def State.takeReply (s : State) (sender : Nat) (body : List Byte) : State :=
  if (byteAt body 0).toNat ≠ s.station then s
  else
    match s.replyEntry sender (byteAt body 1).toNat with
    | none => s.countLate
    | some n =>
      let told := replyOutcome (byteAt body 2) (byteAt body 3)
      (s.modAsk n fun e => { e with state := .answered, accepted := some told.1, reason := told.2 }).askEnded n told.1

/-- ASK_EXPIRY (R160) of one entry. -/
def execAskExpiry (entry : Fin 4) (s : State) : Answered :=
  occurs (fun s => s.mode.receiving && s.askExpiring entry.val) (fun s => s.expireAsk entry.val) s

end Sys2Proof.Machine
end

