-- ==== Sys2Proof/Machine/Platform.lean ====
section
/-! DEFINITION. The Platform Sequencer: markers, riders, gates, expected phases, fallback asks, keys, rebuild
(chapter 6). -/

namespace Sys2Proof.Machine

/-! ### Markers (R105 to R110) -/

/-- Markers and beams are taken: rebuild pending is clear (R105, R113). -/
def State.marking (s : State) : Bool := !s.platform.rebuildPending

/-- The station a valid index reading names as owner (R105). -/
def State.indexReading (s : State) (index : BitVec 6) (valid : Bool) : Option Nat :=
  if valid && decide (index.toNat ≤ 47) then s.ownerOf index.toNat else none

/-- The mode of an arriving cabin (R107). -/
def State.arrivalMode (s : State) (aboard : Option Nat) : ArrivalMode :=
  if s.platform.unloading then (if aboard = some 0 then .pass else .exitOnly)
  else if aboard = none then .exitOnly
  else if s.platform.boardingOpen = false ∧ aboard = some 0 then .pass
  else .normal

/-- An entry appended at an ARRIVE (R106). -/
def ZoneEntry.arriving (cabin owner : Nat) (mode : ArrivalMode) (aboard : Option Nat) : ZoneEntry :=
  ⟨cabin, owner, .exit, mode, aboard, 0, 0, false, false, true, 0, .unused, false⟩

/-- MK_ARRIVE (R106). -/
def State.onMkArrive (s : State) (index : BitVec 6) (valid : Bool) : State :=
  match s.indexReading index valid with
  | none => s.raiseZoneFault .index none (if valid then index.toNat else 255)
  | some owner =>
    let cabin := index.toNat
    if s.platform.zone.any (fun e => e.cabin == cabin) ∨ 3 ≤ s.platform.zone.length then
      s.raiseZoneFault .order (some cabin) Marker.arrive.code.toNat
    else
      let aboard := s.readOccupancy (s.record cabin)
      let mode := s.arrivalMode aboard
      (s.modPlatform fun p => { p with zone := p.zone ++ [ZoneEntry.arriving cabin owner mode aboard] }).notice
        .arrive (some cabin) mode.code.toNat (occupancyValue aboard)

/-- An entry changes segment (R108, R109). -/
def ZoneEntry.moveTo (seg : Segment) (e : ZoneEntry) : ZoneEntry :=
  { e with segment := seg, settle := true, mismatch := 0, fallback := .unused, choiceDue := false }

/-- The place of the oldest entry of a segment. -/
def Platform.placeOf (p : Platform) (seg : Segment) : Option Nat := p.zone.findIdx? fun e => e.segment == seg

/-- Act on the oldest entry of a segment, or raise an ORDER fault for a marker that finds none (R108, R109). -/
def State.atSegment (s : State) (seg : Segment) (m : Marker) (f : Nat → ZoneEntry → State) : State :=
  match s.platform.placeOf seg with
  | none => s.raiseZoneFault .order none m.code.toNat
  | some place =>
    match s.platform.zone[place]? with
    | none => s
    | some e => f place e

/-- MK_TURN (R108). -/
def State.onMkTurn (s : State) : State :=
  s.atSegment .exit .turn fun place e => (s.modZone place (ZoneEntry.moveTo .entry)).notice .turn (some e.cabin) 0 0

/-- The occupancy a CLOSE carries, and whether a clamp took place (R109). -/
def ZoneEntry.closing (e : ZoneEntry) : Option Nat × Bool :=
  match e.aboard with
  | none => (none, false)
  | some n =>
    if n + e.boarded < e.alighted then (some 0, true)
    else if 63 < n + e.boarded - e.alighted then (some 63, true)
    else (some (n + e.boarded - e.alighted), false)

/-- MK_CLOSE (R109). -/
def State.onMkClose (s : State) : State :=
  s.atSegment .entry .close fun place e =>
    let s := (s.modZone place (ZoneEntry.moveTo .closing)).notice .close (some e.cabin)
      (occupancyValue e.closing.1) 0
    if e.closing.2 then
      s.notice .countDoubt (some e.cabin) (occupancyValue e.closing.1) (occupancyValue e.aboard)
    else s

/-- A cabin joins the departure watch, or has its count and mark set back (R110). The watch stands in the order in which its
cabins joined, which the spec leaves open (log 11). -/
def watchCabin (cabin : Nat) (watch : List Watched) : List Watched :=
  if watch.any (fun w => w.cabin == cabin) then
    watch.map fun w => if w.cabin = cabin then ⟨cabin, 0, false⟩ else w
  else watch ++ [⟨cabin, 0, false⟩]

/-- MK_DEPART (R110). -/
def State.onMkDepart (s : State) : State :=
  match s.platform.zone with
  | e :: rest =>
    if e.segment = .closing then
      (s.modPlatform fun p => { p with zone := rest, watch := watchCabin e.cabin p.watch }).notice .depart
        (some e.cabin) 0 0
    else s.raiseZoneFault .order none Marker.depart.code.toNat
  | [] => s.raiseZoneFault .order none Marker.depart.code.toNat

/-! ### Riders (R113) -/

/-- The segment whose cabin a beam counts for. -/
def Beam.segment : Beam → Segment
  | .exitOut | .exitIn => .exit
  | .entryIn | .entryOut => .entry

/-- A rider count one up, held at 63 (R113). -/
def riderUp (n : Nat) : Nat := if n < 63 then n + 1 else n

/-- A crossing changes an entry's counts (R113). -/
def ZoneEntry.cross (b : Beam) (e : ZoneEntry) : ZoneEntry :=
  match b with
  | .exitOut => { e with alighted := riderUp e.alighted }
  | .exitIn => { e with alighted := e.alighted - 1 }
  | .entryIn => { e with boarded := riderUp e.boarded }
  | .entryOut => { e with boarded := e.boarded - 1 }

/-- BEAM_CROSSING (R113); with no cabin in the segment it is not counted. -/
def State.onBeam (s : State) (b : Beam) : State :=
  match s.platform.placeOf (Beam.segment b) with
  | none => s
  | some place => s.modZone place (ZoneEntry.cross b)

/-! ### Gates (R115) -/

/-- Change one gate. -/
def State.modGate (s : State) (g : GateId) (f : Gate → Gate) : State :=
  s.modPlatform fun p =>
    match g with
    | .exit => { p with exitGate := f p.exitGate }
    | .entry => { p with entryGate := f p.entryGate }

/-- One of the two gates. -/
def Platform.gate (p : Platform) : GateId → Gate
  | .exit => p.exitGate
  | .entry => p.entryGate

/-- The field input of a gate's position (R1). -/
def gateLine : GateId → Nat
  | .exit => 15
  | .entry => 16

/-- The travel timer expires (R115): the gate is in fault, with its notice. -/
def State.gateFails (s : State) (g : GateId) : State :=
  (s.modGate g fun x => { x with fault := true, timer := none }).notice .gateFault none g.code.toNat
    (s.platform.gate g).commandOpen.toNat

/-! ### Expected phases and fallback asks (R118 to R120) -/

/-- The phase matches the entry's mode and segment, widened by its ask marks (R118). -/
def ZoneEntry.matching (e : ZoneEntry) (phase : Phase) : Bool :=
  let opening := Phase.opening? phase
  let closing := phase == .closing || phase == .weighing || phase == .ready
  match e.mode, e.segment with
  | .pass, _ => phase == .passing || (e.openedByAsk && opening)
  | .normal, .closing | .exitOnly, .closing => closing || (e.openedByAsk && opening)
  | .normal, .exit | .normal, .entry | .exitOnly, .exit | .exitOnly, .entry => opening || (e.closedByAsk && closing)

/-- The fallback ask for a phase that does not match (R120). -/
def ZoneEntry.fallbackFor (e : ZoneEntry) (phase : Phase) : Option AskKind :=
  match e.mode, e.segment with
  | .pass, _ => if Phase.opening? phase then some .doorClose else none
  | .normal, .closing | .exitOnly, .closing =>
    if Phase.opening? phase || phase == .doorFault then some .doorClose else none
  | .normal, .exit | .normal, .entry | .exitOnly, .exit | .exitOnly, .entry => some .doorOpen

/-- The check of one entry at a mark (R119). `choiceDue` is set when R120 is to act: the count has just reached 2, or
stands at 2 with a DUE fallback; an entry that matches calls for no ask, so its DUE returns to NONE. -/
def ZoneEntry.check (phase : Phase) (e : ZoneEntry) : ZoneEntry :=
  if e.settle then { e with settle := false, choiceDue := false }
  else if e.matching phase then
    { e with mismatch := 0, choiceDue := false, fallback := if e.fallback = .due then .unused else e.fallback }
  else
    { e with
      mismatch := min 2 (e.mismatch + 1)
      choiceDue := e.mismatch == 1 || (decide (2 ≤ e.mismatch) && e.fallback == .due) }

/-- An entry is neither skipped nor mismatched at this mark (R122). -/
def State.entrySound (s : State) (e : ZoneEntry) : Bool := !e.settle && e.matching (s.record e.cabin).phase

/-- The fallback of an entry becomes PENDING as its ask is taken (R120). -/
def State.setPending (place : Nat) (kind : AskKind) (n : Nat) (s : State) : State :=
  s.modZone place fun e => { e with fallback := .pending kind n }

/-- The fallback ask is offered to the Ask Table; refused, it is DUE (R120, R157). -/
def State.offerFallback (s : State) (place : Nat) (e : ZoneEntry) (kind : AskKind) : State :=
  match s.offerAsk .fallback kind e.owner 0 (State.setPending place kind) with
  | (.taken _ _, t) => t
  | (.full, t) | (.noStation, t) => t.modZone place fun e => { e with fallback := .due }

/-- R120 acts on an entry. -/
def State.chooseFallback (s : State) (place : Nat) (e : ZoneEntry) : State :=
  match e.fallbackFor (s.record e.cabin).phase with
  | none => if e.fallback = .due then s.modZone place fun e => { e with fallback := .unused } else s
  | some kind =>
    match e.fallback with
    | .unused | .due => s.offerFallback place e kind
    | .pending _ _ => s
    | .used => s.raiseZoneFault .phase (some e.cabin) kind.code.toNat

/-- FALLBACK_ASK (R120) for the entry at a place, whose choice is due. -/
def State.fallbackAsk (s : State) (place : Nat) : State :=
  match s.platform.zone[place]? with
  | none => s
  | some e => (s.modZone place fun e => { e with choiceDue := false }).chooseFallback place e

/-- The trigger of FALLBACK_ASK stands for the entry at a place. -/
def State.choiceDue (s : State) (place : Nat) : Bool :=
  match s.platform.zone[place]? with
  | none => false
  | some e => e.choiceDue

/-- One entry handled at a mark (R119, R120). -/
def State.checkPlace (s : State) (place : Nat) : State :=
  match s.platform.zone[place]? with
  | none => s
  | some e =>
    let s := s.modZone place (ZoneEntry.check (s.record e.cabin).phase)
    if s.choiceDue place then s.fallbackAsk place else s

/-- PHASE is cleared where no entry was skipped or mismatched, unless it was raised at this mark (R122, R161). -/
def State.clearPhaseFault (s : State) (sound : Bool) : State :=
  if sound ∧ s.platform.phaseFresh = false then s.modPlatform fun p => { p with phaseFault := false } else s

/-- The zone checks at a mark taken while JOINED, in queue order (R119 to R122). -/
def State.zoneCheck (s : State) : State :=
  let sound := s.platform.zone.all s.entrySound
  (((s.checkPlace 0).checkPlace 1).checkPlace 2).clearPhaseFault sound

/-! ### Rebuild (R125) -/

/-- A record in the zone by its last marker (R125). -/
def CabinRecord.candidate (m : Marker) (x : CabinRecord) : Bool :=
  x.owner.isSome && x.phase != .away && x.marker == m

/-- Cabin indices of the candidates of one last marker. -/
def State.candidates (s : State) (m : Marker) : List Nat :=
  (List.range 48).filter fun i => (s.record i).candidate m

/-- A rebuilt entry (R125). -/
def State.rebuilt (s : State) (seg : Segment) (cabin : Nat) : ZoneEntry :=
  ⟨cabin, (s.record cabin).owner.getD 0, seg, if (s.record cabin).phase = .passing then .pass else .exitOnly, none, 0,
    0, false, false, true, 0, .unused, false⟩

/-- The rebuild at the first mark taken while JOINED (R125). -/
def State.rebuildZone (s : State) : State :=
  let c := s.candidates .close
  let t := s.candidates .turn
  let a := s.candidates .arrive
  if c.length ≤ 1 ∧ t.length ≤ 1 ∧ a.length ≤ 1 then
    s.modPlatform fun p =>
      { p with
        rebuildPending := false
        zone := c.map (s.rebuilt .closing) ++ t.map (s.rebuilt .entry) ++ a.map (s.rebuilt .exit) }
  else
    (s.modPlatform fun p => { p with rebuildPending := false, zone := [] }).raiseZoneFault .order none rebuildCode

/-- The platform's work at a mark, but for the ask reports that come before it (R111, R117, R119, R125). -/
def State.platformMark (s : State) : State :=
  let s := s.watchMark.workBoarding
  if s.mode = .joined then
    if s.platform.rebuildPending then s.rebuildZone.clearPhaseFault true else s.zoneCheck
  else s

/-- On entry to LISTENING from LOADING both gate positions are judged (R126). -/
def State.platformStart (s : State) : State :=
  s.modPlatform fun p =>
    { p with
      exitGate := p.exitGate.judge (s.gateClosed .exit)
      entryGate := p.entryGate.judge (s.gateClosed .entry) }

/-! ### Keys (R116, R123) -/

/-- A dwell key (R123): with no ENTRY cabin NO_TARGET is set; an ask the table cannot take is dropped. Its argument, which
the spec leaves open, is 0 (log 36). -/
def State.dwellKey (s : State) (kind : AskKind) : State :=
  match s.platform.first .entry with
  | none => s.setFlag .noTarget
  | some e => (s.offerAsk .key kind e.owner 0 fun _ t => t).2

/-- KEY_STOP and KEY_RESUME (R123). -/
def State.setStop (s : State) (on : Bool) : State := s.modPlatform fun p => { p with stopFlag := on }

/-! ### The commands -/

/-- The input line of a beam (R1). -/
def beamLine : Beam → Nat
  | .exitOut => 11
  | .exitIn => 12
  | .entryIn => 13
  | .entryOut => 14

/-- A marker or a beam of the platform (R105, R113). One that comes before the rebuild is not taken, but its input has
changed all the same (R2, R125). -/
def markerPulse (line : Nat) (effect : State → State) : State → Answered :=
  inputPulse .platform line fun s => if s.marking then effect s else s

/-- MK_ARRIVE (R106). -/
def execMkArrive (index : BitVec 6) (valid : Bool) (s : State) : Answered :=
  markerPulse 0 (fun s => s.onMkArrive index valid) s

/-- MK_TURN (R108). -/
def execMkTurn (s : State) : Answered := markerPulse 1 State.onMkTurn s

/-- MK_CLOSE (R109). -/
def execMkClose (s : State) : Answered := markerPulse 2 State.onMkClose s

/-- MK_DEPART (R110). -/
def execMkDepart (s : State) : Answered := markerPulse 3 State.onMkDepart s

/-- BEAM_CROSSING (R113). -/
def execBeamCrossing (beam : Beam) (s : State) : Answered := markerPulse (beamLine beam) (fun s => s.onBeam beam) s

/-- GATE_POSITION_CHANGE (R115). -/
def execGatePositionChange (gate : GateId) (closed : Bool) (s : State) : Answered :=
  inputChange .platform (gateLine gate) closed (fun s => s.modGate gate (Gate.judge closed)) s

/-- GATE_TRAVEL_EXPIRY (R115). -/
def execGateTravelExpiry (gate : GateId) (s : State) : Answered :=
  expires (fun s => (s.platform.gate gate).timer) (fun s => s.gateFails gate) s

/-- KEY_BOARD_OPEN (R116). -/
def execKeyBoardOpen (s : State) : Answered := inputPulse .platform 17 (fun s => s.setBoarding true) s

/-- KEY_BOARD_SHUT (R116). -/
def execKeyBoardShut (s : State) : Answered := inputPulse .platform 18 (fun s => s.setBoarding false) s

/-- KEY_STOP of the platform (R123). -/
def execKeyStop (s : State) : Answered := inputPulse .platform 19 (fun s => s.setStop true) s

/-- KEY_RESUME of the platform (R123). -/
def execKeyResume (s : State) : Answered := inputPulse .platform 20 (fun s => s.setStop false) s

/-- KEY_DWELL (R123). -/
def execKeyDwell (s : State) : Answered := inputPulse .platform 21 (fun s => s.dwellKey .dwell) s

/-- KEY_DWELL_END (R123). -/
def execKeyDwellEnd (s : State) : Answered := inputPulse .platform 22 (fun s => s.dwellKey .dwellEnd) s

/-- KEY_ZONE_CLEAR (R123). -/
def execKeyZoneClear (s : State) : Answered := inputPulse .platform 23 State.clearZone s

/-- FALLBACK_ASK (R120) for one place of the queue. -/
def execFallbackAsk (place : Fin 3) (s : State) : Answered :=
  occurs (fun s => s.mode == .joined && s.role == .platform && s.choiceDue place.val)
    (fun s => s.fallbackAsk place.val) s

/-- DEPARTURE_UNREADY (R111) for a watched cabin. -/
def execDepartureUnready (cabin : Fin 48) (s : State) : Answered :=
  occurs
    (fun s => s.mode.receiving && s.role == .platform && s.platform.watch.any fun w => w.cabin == cabin.val && w.due)
    (fun s => s.modPlatform fun p =>
      { p with watch := p.watch.map fun w => if w.cabin = cabin.val then w.setUnready else w })
    s

end Sys2Proof.Machine
end

