-- ==== Sys2Proof/Machine/Mark.lean ====
section
/-! DEFINITION. The Round Controller: taking a mark, the heard table, the roster's live fields, the own STATE, joining and
founding (chapter 2). The order of the blocks' work at a mark, which R33 leaves open, is fixed here (log 6). -/

namespace Sys2Proof.Machine

/-! ### The heard table and the roster -/

/-- The table swaps (R34). -/
def Round.swap (number : Byte) (r : Round) : Round := { r with frozen := r.current, current := HeardSide.open number }

/-- The station's slot on the current side takes a STATE (R35, R36). -/
def State.enterSlot (s : State) (sender : Nat) (h : HeardState) : State :=
  s.modRound fun r => { r with current := { r.current with slots := r.current.slots.set sender (some h) } }

/-- A STATE, heard or reported sent, reaches the Round Controller (R35, R36). -/
def State.enterState (s : State) (sender : Nat) (round : Byte) (h : HeardState) : State :=
  if s.round.firstMark then s
  else if round = s.round.number then s.enterSlot sender h
  else s.bump .stale

/-- A station's silent count has reached the limit and it is not SILENT yet: the trigger of STATION_SILENT_ENTRY. -/
def RosterEntry.silenceDue (limit : Nat) (e : RosterEntry) : Bool :=
  e.expected && decide (limit ≤ e.silentCount) && !e.silent

/-- A station enters SILENT (R40). -/
def RosterEntry.enterSilent (e : RosterEntry) : RosterEntry := { e with silent := true }

/-- The silent count of an expected station from its slot on the frozen side (R40). -/
def RosterEntry.countSilence (h : Option HeardState) (e : RosterEntry) : RosterEntry :=
  if e.expected then
    match h with
    | some _ => { e with silentCount := 0, silent := false }
    | none => { e with silentCount := min 15 (e.silentCount + 1) }
  else e

/-- The last fields of a station that was heard (R41). -/
def RosterEntry.takeLast (h : Option HeardState) (e : RosterEntry) : RosterEntry :=
  match h with
  | some x => { e with last := some x.body }
  | none => e

/-- The silence step at a swap (R40); STATION_SILENT is set for a station that enters SILENT. -/
def State.silenceStep (s : State) : State :=
  let counted := s.roster.zipWith (fun e h => e.countSilence h) s.round.frozen.slots
  let limit := s.settings.silenceLimit
  let s' := s.modRoster fun _ => counted.map fun e => if e.silenceDue limit then e.enterSilent else e
  if counted.any (RosterEntry.silenceDue limit) then s'.setFlag .stationSilent else s'

/-- The last votes at a swap (R41). -/
def State.lastStep (s : State) : State :=
  s.modRoster fun r => r.zipWith (fun e h => e.takeLast h) s.round.frozen.slots

/-! ### The queue and the peers at a mark -/

/-- The removals of R17: a STATE still queued, counted in STATE_LATE, and at a heard MARK an own MARK still queued. -/
def State.removeAtMark (s : State) (heard : Bool) : State :=
  let late := s.line.queue.any fun e => e.cls == .state
  let s := s.modLine fun l =>
    { l with queue := l.queue.filter fun e => !(e.cls == .state || (heard && e.cls == .mark)) }
  if late then s.bump .stateLate else s

/-- A peer's STATE on the frozen side carries the congested flag (R16). -/
def State.peersCongest (s : State) : Bool :=
  (List.range 64).any fun n =>
    n != s.station &&
      match s.round.frozen.slot n with
      | some h => h.congested
      | none => false

/-! ### Joining -/

/-- The marks that bring a station to JOINED (R42). -/
def State.marksNeeded (s : State) : Nat := if s.line.returning then 1 else 2

/-- The marks-taken count has reached the number needed while LISTENING: the trigger of JOIN. -/
def State.joining (s : State) : Bool := s.mode == .listening && decide (s.marksNeeded ≤ s.round.marksTaken)

/-- JOIN (R42). -/
def State.joinWheel (s : State) : State := (s.setMode .joined).modLine fun l => { l with returning := false }

/-- The marks-taken count at a mark (R42). -/
def State.countMarkTaken (s : State) : State :=
  if s.mode = .listening then
    let s := s.modRound fun r => { r with marksTaken := min 2 (r.marksTaken + 1) }
    if s.joining then s.joinWheel else s
  else s

/-! ### The own STATE -/

/-- The published side (R37). -/
def State.publish (s : State) : State :=
  s.modRound fun r => { r with published := some ⟨r.working, s.capture.congested, r.number⟩ }

/-- The stagger of the own STATE (R38). -/
def State.stagger (s : State) : Nat := ms (2 * s.station)

/-- The published STATE is offered with its stagger (R38). -/
def State.offerState (s : State) : State :=
  match s.round.published with
  | none => s
  | some p => (s.offer .state (p.body.bytes p.congested) (some s.stagger)).2

/-! ### Taking a mark -/

/-- The comparisons of R32, before the mark acts on anything (R52, R75): only for a heard MARK while JOINED. -/
def State.compareMark (s : State) (heard : Option (List Byte)) : State :=
  match heard with
  | some body =>
    if s.mode = .joined then
      (s.compareLevel (byteAt body 3)).compareReplica (byteAt body 0).toNat
        (ofTwoBytes (byteAt body 1) (byteAt body 2))
    else s.modReplica fun r => { r with divergence := false }
  | none => s.modReplica fun r => { r with divergence := false }

/-- The round number set from the mark (R31), and what a mark ends: the first-mark mark, the round-lost condition, a
MARK that waits, the round timer's pass (R26, R28, R31, R44). -/
def State.setRound (s : State) (number : Byte) (heard : Bool) : State :=
  let jump := heard && !s.round.firstMark && number != s.round.number + 1
  let s := (s.modRound fun r =>
    { r with number := number, firstMark := false, timer := 0, roundLost := false, markOffered := false }).modLine
    fun l => { l with markWaiting := false }
  if jump then s.setFlag .roundJump else s

/-- Swap and roster (R34, R40, R41); the silence step is skipped at the first mark (R40). -/
def State.swapRound (s : State) (number : Byte) (first : Bool) : State :=
  let s := s.modRound (Round.swap number)
  (if first then s else s.silenceStep).lastStep

/-- The Agreement Unit at a mark, in JOINED only (R49, R53). -/
def State.agreementMark (s : State) (closed : Byte) : State :=
  if s.mode = .joined then (s.computeAgreement closed).checkSkew else s

/-- The role sequencer at a mark. -/
def State.roleMark (s : State) : State :=
  match s.role with
  | .drive => s.driveMark
  | .platform => s.platformMark
  | .cabin => s.cabinMark
  | .absent | .mast | .console => s

/-- A mark is taken (R33): `number` is its round number, `heard` the body of a heard MARK, none for the own. -/
def State.takeMark (s : State) (number : Byte) (heard : Option (List Byte)) : State :=
  let first := s.round.firstMark
  let closed := s.round.current.round
  let s := (s.modStatus Status.clearOld).compareMark heard
  let s := (s.setRound number heard.isSome).countMarkTaken
  let s := (s.swapRound number first).removeAtMark heard.isSome
  let s := s.modLine fun l => { l with peersCongested := s.peersCongest }
  let s := ((s.agreementMark closed).askMark).roleMark
  let s := (s.ageReplica.decideCongested).countAttentionMark
  let s := s.refresh.publish
  if s.mode = .joined then s.offerState else s

/-! ### Judging a MARK (R30) -/

/-- The early-mark window is open (R26, R30). -/
def State.earlyWindow (s : State) : Bool :=
  !s.round.firstMark && decide (s.round.timer < s.settings.periodTime / 2)

/-- A MARK delivered to the Round Controller (R30). The sender is judged first: one without a rank that is early as well
sets STRANGER alone (the model's choice, log 38). -/
def State.judgeMark (s : State) (sender : Nat) (number : Byte) (body : List Byte) : State :=
  if (s.entryAt sender).rank = none then s.setFlag .stranger
  else if s.earlyWindow then (s.bump .earlyMarks).setFlag .earlyMark
  else s.takeMark number (some body)

/-! ### The round timer's commands -/

/-- STATION_SILENT_ENTRY (R40) of one station. -/
def execStationSilentEntry (station : Fin 64) (s : State) : Answered :=
  occurs
    (fun s => s.mode.receiving && (s.entryAt station.val).silenceDue s.settings.silenceLimit)
    (fun s => (s.modEntry station.val RosterEntry.enterSilent).setFlag .stationSilent) s

/-- JOIN (R42). -/
def execJoin (s : State) : Answered := occurs State.joining State.joinWheel s

/-- EARLY_MARK_WINDOW_END (R26): the round timer reaches half the period. -/
def execEarlyMarkWindowEnd (s : State) : Answered :=
  occurs (fun s => s.mode.receiving && s.earlyWindow) (fun s => s.elapseToRound (s.settings.periodTime / 2)) s

/-- The moment at which the own MARK is offered (R27). -/
def State.markTime (s : State) : Nat := s.settings.periodTime + ms (5 * s.rank.getD 0)

/-- MARK_OFFER_TIME (R27): once in each pass of the round timer. -/
def execMarkOfferTime (s : State) : Answered :=
  occurs (fun s => s.mode == .joined && s.rank.isSome && !s.round.markOffered)
    (fun s =>
      ((s.elapseToRound s.markTime).modRound fun r => { r with markOffered := true }).offerMark) s

/-- A queued STATE at a round loss: removed, or marked for removal while it is being sent (R13, R44). -/
def removeAtLoss (queue : List TxEntry) : List TxEntry :=
  queue.filterMap fun e =>
    if e.cls = .state then e.attempt.map fun a => { e with attempt := some { a with after := .remove } } else some e

/-- A STATE that waits in the queue leaves it at the round loss, counted in STATE_LATE (R44). -/
def State.dropState (s : State) : State :=
  let waiting := s.line.queue.any fun e => e.cls == .state && e.attempt.isNone
  let s := s.modLine fun l => { l with queue := removeAtLoss l.queue }
  if waiting then (s.bump .stateLate).entryLeft else s

/-- The round-lost condition (R44, R60). -/
def State.loseRound (s : State) : State :=
  let s := ((s.modRound fun r => { r with roundLost := true }).setFlag .roundLoss).dropState
  if s.role = .drive then s.driveLoss else s

/-- ROUND_LOSS (R44). -/
def execRoundLoss (s : State) : Answered :=
  occurs (fun s => s.mode == .joined && !s.round.roundLost)
    (fun s => (s.elapseToRound (2 * s.settings.periodTime)).loseRound) s

/-- The founding time (R43). -/
def State.foundingTime (s : State) : Nat := 2 * s.settings.periodTime + ms (5 * s.rank.getD 0)

/-- Founding (R43, R51). -/
def State.found (s : State) : State :=
  ((((s.setMode .joined).modRound fun r =>
    { r with number := 255, current := HeardSide.open 255, firstMark := true, timer := 0, markOffered := false
             roundLost := false }).modLine
    fun l => { l with returning := false, markWaiting := false }).resetAgreement).offerMark

/-- FOUNDING (R43). -/
def execFounding (s : State) : Answered :=
  occurs (fun s => s.mode == .listening && s.rank.isSome)
    (fun s => (s.elapseToRound s.foundingTime).found) s

end Sys2Proof.Machine
end

