-- ==== Sys2Proof/Machine/Line.lean ====
section
/-! DEFINITION. The Line Controller's sending side: attempts, collisions, back-off, success, isolation (sections 1.4 and
1.5). -/

namespace Sys2Proof.Machine

/-! ### Leaving JOINED (R15, R51, R60) -/

/-- One frame removed as the queue is emptied (R15). -/
def State.dropFrame (s : State) (e : TxEntry) : State :=
  let s := s.bump .txDrops
  if e.cls = .ask then s.askDiscarded e.body else s

/-- The queue is emptied; every ASK in it is reported as a send failure (R15). -/
def State.emptyQueue (s : State) : State :=
  s.line.queue.foldl State.dropFrame (s.modLine fun l => { l with queue := [], markWaiting := false })

/-- The station leaves JOINED for another mode (R15, R44, R51, R60). -/
def State.leaveJoined (s : State) (m : Mode) : State :=
  let s := (((s.setMode m).emptyQueue).resetAgreement).modRound fun r => { r with roundLost := false }
  if s.role = .drive then s.driveLoss else s

/-! ### Isolation (R23, R24) -/

/-- The isolation score has reached 4 while JOINED: the trigger of ISOLATION_ENTRY. -/
def State.isolating (s : State) : Bool := s.mode == .joined && decide (4 ≤ s.line.isoScore)

/-- ISOLATION_ENTRY (R23). -/
def State.enterIsolated (s : State) : State :=
  (s.leaveJoined .isolated).modLine fun l =>
    { l with isoScore := 0, isoCount := 0, isoTimer := some s.settings.periodTime }

/-- Enter ISOLATED where the score calls for it. -/
def State.isolateIfDue (s : State) : State := if s.isolating then s.enterIsolated else s

/-- The isolation count has reached 8: the trigger of ISOLATION_END. -/
def State.isolationDone (s : State) : Bool := s.mode == .isolated && decide (8 ≤ s.line.isoCount)

/-- ISOLATION_END (R24, R26, R42, R151): LISTENING, marked as returning. -/
def State.endIsolation (s : State) : State :=
  (((s.setMode .listening).modLine fun l => { l with returning := true, isoTimer := none }).modRound
    fun r => { r with marksTaken := 0, timer := 0 }).restartConverter

/-- The isolation count rises and its period starts again; at 8 the isolation ends (R24). -/
def State.countIsolation (s : State) : State :=
  let s := s.modLine fun l =>
    { l with isoCount := min 8 (l.isoCount + 1), isoTimer := some s.settings.periodTime }
  if s.isolationDone then s.endIsolation else s

/-! ### Attempts (R18) -/

/-- A timer that is absent or has run out. -/
def passed (t : Option Nat) : Bool :=
  match t with
  | none => true
  | some n => n == 0

/-- An entry is eligible (R18). -/
def TxEntry.eligible (e : TxEntry) : Bool := passed e.backoff && (e.cls != .state || passed e.stagger)

/-- The entry an attempt takes: the highest class among the eligible, and of that class the first that arrived (R18). -/
def chooseEntry (queue : List TxEntry) : Option Nat :=
  let best := (queue.filter TxEntry.eligible).foldl (fun n e => min n e.cls.toNat) 7
  queue.findIdx? fun e => e.eligible && e.cls.toNat == best

/-- Change the queue entry at a place. -/
def State.modQueued (s : State) (place : Nat) (f : TxEntry → TxEntry) : State :=
  s.modLine fun l =>
    match l.queue[place]? with
    | some e => { l with queue := l.queue.set place (f e) }
    | none => l

/-- The frame of an attempt (R18, R27, R29, R199): a MARK carries the next round number and the body of the moment. -/
def State.frameOf (s : State) (e : TxEntry) : List Byte :=
  let sender := BitVec.ofNat 8 s.station
  match e.cls with
  | .mark =>
    frameBytes (classHeader e.cls) sender (s.round.number + 1) (markBody s.occupiedCount s.digest s.agreement.level)
  | .reply | .state | .ask | .essential | .info => frameBytes (classHeader e.cls) sender s.round.number e.body

/-- The queue can start an attempt: JOINED, nothing being sent, an entry eligible (R18). -/
def State.canStart (s : State) : Bool :=
  s.mode == .joined && !s.line.sending && s.line.queue.any TxEntry.eligible

/-- An attempt starts (R18). -/
def State.startAttempt (s : State) : State :=
  match chooseEntry s.line.queue with
  | none => s
  | some place =>
    s.modQueued place fun e => { e with backoff := none, attempt := some ⟨s.frameOf e, 0, .keep⟩ }

/-- What is left until the line has been idle for 16 bit times (R18). -/
def State.idleLeft (s : State) : Nat := 16 - s.line.idle

/-- TRANSMIT_ATTEMPT_START (R18): what is left of the idle gap passes, and the attempt starts. -/
def execTransmitAttemptStart (s : State) : Answered :=
  occurs (fun s => (s.elapse s.idleLeft).canStart) (fun s => (s.elapse s.idleLeft).startAttempt) s

/-! ### The entry being sent -/

/-- The place of the entry being sent. -/
def State.sendingPlace (s : State) : Option Nat := s.line.queue.findIdx? fun e => e.attempt.isSome

/-- The entry being sent, with its place and its attempt. -/
def State.sendingEntry (s : State) : Option (Nat × TxEntry × Attempt) :=
  match s.sendingPlace with
  | none => none
  | some place =>
    match s.line.queue[place]? with
    | none => none
    | some e => e.attempt.map fun a => (place, e, a)

/-! ### The levels on the line (R3) -/

/-- The bit times of the frame of an attempt, as they are sent. -/
def Attempt.levels (a : Attempt) : List LineBit := lineBits a.frame

/-- How many they are. -/
def Attempt.bits (a : Attempt) : Nat := 10 * a.frame.length

/-- The level that the station drives on LA/LB in the bit time to come; none while it leaves the line released (R3,
R18). -/
def State.driven (s : State) : Option LineBit := s.sendingEntry.bind fun x => x.2.2.levels[x.2.2.elapsed]?

/-- That bit time as the transceiver reports it, with the levels that other stations drive in it (R3). -/
def State.readBack (s : State) (others : List LineBit) : LineBit := lineReading (s.driven.toList ++ others)

/-- The first bit time of an attempt with a mismatch: read back as CONTENDED, or as the opposite of what was sent (R3). -/
def Attempt.mismatch (a : Attempt) (readBack : List LineBit) : Option Nat := firstMismatch a.levels readBack

/-! ### The end of an attempt -/

/-- The entry at a place leaves the queue. -/
def State.removeQueued (s : State) (place : Nat) : State := s.modLine fun l => { l with queue := l.queue.eraseIdx place }

/-- The line falls idle as the station stops driving it (R19, R21, R22). -/
def State.stopDriving (s : State) : State := s.modLine fun l => { l with idle := 0 }

/-- One step of the pseudo-random sequence (R19). -/
def prngStep (w : Word) : Word :=
  (w >>> 1) ||| ((BitVec.ofBool (w.getLsbD 0 ^^ w.getLsbD 2 ^^ w.getLsbD 3 ^^ w.getLsbD 5)).setWidth 16 <<< 15)

/-- The back-off slots drawn after the `n`-th collision of an entry, from the new value of the sequence (R19). -/
def backoffSlots (n : Nat) (w : Word) : Nat := w.toNat % 2 ^ min n 5

/-- The slot time (R19). -/
def slotTime : Nat := 32

/-- The entry at a place draws its back-off after its `n`-th collision; a draw of 0 gives none (R19). -/
def State.drawBackoff (s : State) (place n : Nat) : State :=
  let w := prngStep s.line.prng
  let k := backoffSlots n w
  (s.modLine fun l => { l with prng := w }).modQueued place fun e =>
    { e with attempts := n, attempt := none, backoff := if k = 0 then none else some (k * slotTime) }

/-- An entry is discarded after failures: the isolation score rises, and a MARK that waits for a place is offered (R20,
R21, R23, R28). A discarded ASK is reported before ISOLATED follows at once, so that a frame offered at the report is
among those the emptied queue drops: the order the spec leaves open (log 34). A discarded MARK is offered afresh where
the station is still JOINED (R28). -/
def State.discardEntry (s : State) (place : Nat) (e : TxEntry) : State :=
  let s := (s.removeQueued place).modLine fun l => { l with isoScore := l.isoScore + 1 }
  if e.cls = .mark then
    let s := s.isolateIfDue
    if s.mode = .joined then s.offerMark else s
  else
    let s := s.entryLeft
    (if e.cls = .ask then s.askDiscarded e.body else s).isolateIfDue

/-- EXCESS_ATTEMPTS_DISCARD (R20) of the entry at a place. -/
def State.discardExcess (s : State) (place : Nat) (e : TxEntry) : State :=
  ((s.bump .excessDrops).setFlag .excessAttempts).discardEntry place e

/-- R13: the replacement that met an entry while it was being sent applies now. -/
def State.applyReplacement (s : State) (place : Nat) (body : List Byte) (stagger : Option Nat) : State :=
  s.modQueued place fun e => TxEntry.fresh e.cls body stagger

/-- R13, R44: the removal that met an entry while it was being sent applies now, counted in STATE_LATE. -/
def State.applyRemoval (s : State) (place : Nat) : State := ((s.removeQueued place).bump .stateLate).entryLeft

/-- A collision ends the attempt of the entry at a place (R13, R19, R20). -/
def State.collide (s : State) (place : Nat) (e : TxEntry) (a : Attempt) : State :=
  let s := (s.stopDriving).bump .collisions
  match a.after with
  | .replace body stagger => s.applyReplacement place body stagger
  | .remove => s.applyRemoval place
  | .keep =>
    if s.settings.attemptLimit ≤ e.attempts + 1 then s.discardExcess place e
    else s.drawBackoff place (e.attempts + 1)

/-- The isolation score rises by one for an entry that stays (R21, R23, log 17). -/
def State.raiseScore (s : State) : State := s.modLine fun l => { l with isoScore := l.isoScore + 1 }

/-- A late collision ends the attempt of the entry at a place (R13, R21). At the fourth failure a replacement or removal
that the entry has met applies before ISOLATED is entered, so that the replacement is among the frames the emptied queue
drops: the order the spec leaves open (log 34). -/
def State.collideLate (s : State) (place : Nat) (e : TxEntry) (a : Attempt) : State :=
  let s := ((s.stopDriving).bump .lateColl).setFlag .lateCollision
  match a.after with
  | .replace body stagger => ((s.applyReplacement place body stagger).raiseScore).isolateIfDue
  | .remove => ((s.applyRemoval place).raiseScore).isolateIfDue
  | .keep => s.discardEntry place e

/-- Act on the entry being sent, at the bit time of its attempt that `ends` gives: the time to it passes first (log 2).
Nothing happens where it gives none (log 1). -/
def onAttempt (ends : Attempt → Option Nat) (effect : Nat → TxEntry → Attempt → State → State) (s : State) : Answered :=
  match s.sendingEntry with
  | none => .next s
  | some (place, e, a) =>
    match ends a with
    | none => .next s
    | some n => if s.resetHeld = false then .next (effect place e a (s.elapse (n - a.elapsed))).settle else .next s

/-- The bit times of the sync, the kind and class and the sender byte (R19). -/
def openingBits : Nat := 30

/-- The end of the mismatching bit of an attempt, if it lies within those three bytes (R19). -/
def Attempt.collidesAt (readBack : List LineBit) (a : Attempt) : Option Nat :=
  match a.mismatch readBack with
  | none => none
  | some k => if k < openingBits then some (k + 1) else none

/-- The end of the mismatching bit of an attempt, if it lies past the sender byte (R21). -/
def Attempt.collidesLateAt (readBack : List LineBit) (a : Attempt) : Option Nat :=
  match a.mismatch readBack with
  | none => none
  | some k => if openingBits ≤ k then some (k + 1) else none

/-- The end of an attempt of which every bit has been read back as sent (R22). -/
def Attempt.succeedsAt (readBack : List LineBit) (a : Attempt) : Option Nat :=
  if readBack = a.levels then some a.bits else none

/-- COLLISION (R3, R19) at the end of the mismatching bit. -/
def execCollision (readBack : List LineBit) (s : State) : Answered :=
  onAttempt (Attempt.collidesAt readBack) (fun place e a s => s.collide place e a) s

/-- LATE_COLLISION (R3, R21) at the end of the mismatching bit. -/
def execLateCollision (readBack : List LineBit) (s : State) : Answered :=
  onAttempt (Attempt.collidesLateAt readBack) (fun place e a s => s.collideLate place e a) s

/-- EXCESS_ATTEMPTS_DISCARD (R20): of the first entry whose attempt count stands at the limit. -/
def execExcessAttemptsDiscard (s : State) : Answered :=
  match s.line.queue.findIdx? fun e => decide (s.settings.attemptLimit ≤ e.attempts) with
  | none => .next s
  | some place =>
    match s.line.queue[place]? with
    | none => .next s
    | some e => occurs (fun s => s.mode == .joined) (fun s => s.discardExcess place e) s

/-! ### Success (R22) -/

/-- The own STATE is reported sent (R36, R71). -/
def State.ownStateSent (s : State) : State :=
  match s.round.published with
  | none => s
  | some p =>
    let s' := s.enterState s.station p.round ⟨p.body, p.congested⟩
    if s.role = .cabin then s'.takeCabinState s.station p.round p.body else s'

/-- The report of a successful transmission (R22). -/
def State.reportSent (s : State) (e : TxEntry) : State :=
  match e.cls with
  | .mark => s.takeMark (s.round.number + 1) none
  | .state => s.ownStateSent
  | .ask => s.askSent e.body
  | .reply | .essential | .info => s

/-- A frame's own copy is offered to the Capture Store (R22, R191). -/
def State.captureOwn (s : State) (frame : List Byte) : State :=
  let f := Frame.ofBytes (frame.drop 1)
  s.offerCapture f.header f.sender f.round f.body true

/-- An attempt has succeeded (R22): the entry leaves, the score is 0, the frame is captured, the block is told. The frame
is captured before the block's work, for an own MARK before the mark's (the model's choice, log 41). -/
def State.succeed (s : State) (place : Nat) (e : TxEntry) (a : Attempt) : State :=
  let s := ((s.stopDriving).removeQueued place).modLine fun l => { l with isoScore := 0 }
  ((s.captureOwn a.frame).reportSent e).entryLeft

/-- TRANSMISSION_SUCCESS (R3, R22) at the end of the last bit of the CRC, each bit of the frame read back as sent; with none
read back it does nothing (log 1). -/
def execTransmissionSuccess (s : State) (readBack : List LineBit := []) : Answered :=
  onAttempt (Attempt.succeedsAt readBack) (fun place e a s => s.succeed place e a) s

/-! ### Back-off, stagger and isolation commands -/

/-- The back-off time left of the entry at a place. -/
def State.backoffLeft (s : State) (place : Nat) : Option Nat :=
  match s.line.queue[place]? with
  | none => none
  | some e => e.backoff

/-- BACKOFF_EXPIRY (R19) of the entry at a place. -/
def execBackoffExpiry (place : Fin 8) (s : State) : Answered :=
  expires (fun s => s.backoffLeft place.val)
    (fun s => s.modQueued place.val fun e => { e with backoff := none }) s

/-- The stagger time left of the queued STATE. -/
def State.staggerLeft (s : State) : Option Nat :=
  match s.line.queue.find? fun e => e.cls == .state with
  | none => none
  | some e => e.stagger

/-- STATE_STAGGER_EXPIRY (R38). -/
def execStateStaggerExpiry (s : State) : Answered :=
  expires State.staggerLeft
    (fun s => s.modLine fun l =>
      { l with queue := l.queue.map fun e => if e.cls = .state then { e with stagger := none } else e }) s

/-- ISOLATION_ENTRY (R23). -/
def execIsolationEntry (s : State) : Answered := occurs State.isolating State.enterIsolated s

/-- ISOLATION_PERIOD_EXPIRY (R24). -/
def execIsolationPeriodExpiry (s : State) : Answered :=
  if s.mode = .isolated then expires (fun s => s.line.isoTimer) State.countIsolation s else .next s

/-- ISOLATION_END (R24). -/
def execIsolationEnd (s : State) : Answered := occurs State.isolationDone State.endIsolation s

end Sys2Proof.Machine
end

