-- ==== Sys2Proof/Machine/Wind.lean ====
section
/-! DEFINITION. The Wind Monitor of a MAST station (chapter 7). -/

namespace Sys2Proof.Machine

/-- The tick period (R127). -/
def tickTime : Nat := ms 250
/-- The full scale of a sample (R129). -/
def windFullScale : Nat := 500
/-- Samples in the ring (R131). -/
def ringSize : Nat := 12
/-- Samples in a slice (R132). -/
def sliceSize : Nat := 60
/-- Slices in the ring (R132). -/
def sliceRingSize : Nat := 40
/-- Good samples that clear the sensor fault (R130). -/
def goodNeeded : Nat := 12
/-- A time setting in ticks (7.1). -/
def ticks (seconds : Nat) : Nat := 4 * seconds

/-- The kinds of tick (R129). -/
inductive TickKind where
  | good | bad | missed
  deriving DecidableEq, Repr

/-- Sample entered and kind of tick, from the pending result and the last sample (R129). -/
def tickSample (pending : Option Result) (last : Option Nat) : Option Nat × TickKind :=
  match pending with
  | none => (last, .missed)
  | some r =>
    if r.overrange then (some windFullScale, .bad)
    else
      match r.polarity with
      | .negative => if r.count / 4 = 0 then (some 0, .good) else (last, .bad)
      | .positive => (some (r.count / 4), .good)

/-- The pending result is taken: last sample and miss count (R128, R129). -/
def Wind.sample (w : Wind) : Wind :=
  let t := tickSample w.pending w.last
  { w with
    pending := none
    last := if t.1.isSome then t.1 else w.last
    miss := if t.2 = .missed then min 3 (w.miss + 1) else 0 }

/-- The good-sample count has reached its number: the trigger of SENSOR_FAULT_CLEAR. -/
def Wind.faultEnding (w : Wind) : Bool := w.sensorFault && decide (goodNeeded ≤ w.good)

/-- SENSOR_FAULT_CLEAR (R130). -/
def Wind.clearFault (w : Wind) : Wind := { w with sensorFault := false, good := 0 }

/-- The sensor fault is set (R130). -/
def Wind.setFault (w : Wind) : Wind := { w with sensorFault := true, good := 0 }

/-- The sensor fault at a tick, after the miss count (R130). A miss that brings the miss count to 3, or finds it there,
sets it. -/
def Wind.judgeSensor (kind : TickKind) (w : Wind) : Wind :=
  match kind with
  | .bad => w.setFault
  | .missed => if w.miss = 3 then w.setFault else w
  | .good =>
    if w.sensorFault then
      let w := { w with good := w.good + 1 }
      if w.faultEnding then w.clearFault else w
    else w

/-- A ring of at most `n` items takes one at the back (R131, R132). -/
def pushRing (n : Nat) (x : Nat) (ring : List Nat) : List Nat := (if n ≤ ring.length then ring.drop 1 else ring) ++ [x]

/-- The mean of a ring, rounded down; absent of an empty one (R131, R132). -/
def meanOf (ring : List Nat) : Option Nat := if ring.isEmpty then none else some (ring.sum / ring.length)

/-- A sample joins the ring and sets the gust (R131). -/
def Wind.enterRing (x : Nat) (w : Wind) : Wind :=
  let ring := pushRing ringSize x w.ring
  { w with ring := ring, gust := meanOf ring }

/-- The slice accumulator is full: the trigger of SLICE_COMPLETION. -/
def Wind.sliceDue (w : Wind) : Bool := decide (sliceSize ≤ w.accCount)

/-- SLICE_COMPLETION (R132). -/
def Wind.completeSlice (w : Wind) : Wind :=
  { w with slices := pushRing sliceRingSize (w.accSum / sliceSize) w.slices, accSum := 0, accCount := 0 }

/-- The sustained value (R132). -/
def Wind.setSustained (w : Wind) : Wind := { w with sustained := if w.slices.isEmpty then w.gust else meanOf w.slices }

/-- A sample joins the slice accumulator, which may complete a slice (R132). -/
def Wind.enterSlice (x : Nat) (w : Wind) : Wind :=
  let w := { w with accSum := w.accSum + x, accCount := w.accCount + 1 }
  (if w.sliceDue then w.completeSlice else w).setSustained

/-- The sample of a tick, if there is one, is entered (R129, R131, R132). -/
def Wind.enter (sample : Option Nat) (w : Wind) : Wind :=
  match sample with
  | none => w
  | some x => (w.enterRing x).enterSlice x

/-! ### Conditions (7.1) -/

/-- The value is present and below a limit. -/
def belowLimit (v : Option Nat) (limit : Nat) : Bool :=
  match v with
  | none => false
  | some n => decide (n < limit)

/-- The value is present and at or above a limit. -/
def atLeast (v : Option Nat) (limit : Nat) : Bool :=
  match v with
  | none => false
  | some n => decide (limit ≤ n)

/-- The hold condition. -/
def Wind.holding (w : Wind) (g : Settings) : Bool := atLeast w.gust g.holdGust || atLeast w.sustained g.holdSustained

/-- The release condition. -/
def Wind.releasing (w : Wind) (g : Settings) : Bool :=
  belowLimit w.gust g.releaseGust && belowLimit w.sustained g.releaseSustained

/-- The calm condition. -/
def Wind.calming (w : Wind) (g : Settings) : Bool := belowLimit w.gust (g.watchGust - g.watchHysteresis)

/-- The sample ring is full (R131). -/
def Wind.ringFull (w : Wind) : Bool := w.ring.length == ringSize

/-! ### Stages (R133 to R139) -/

/-- The counts set on entry to a stage (R133). -/
def Wind.enterStage (stage : Stage) (w : Wind) : Wind :=
  match stage with
  | .watch => { w with stage := .watch, watchCalm := 0 }
  | .hold => { w with stage := .hold, release := 0, clearWait := 0, clearPassed := false }
  | .calm => { w with stage := .calm }
  | .clear => { w with stage := .clear }
  | .shut => { w with stage := .shut }

/-- A change of stage, with its WIND_STAGE notice: the new stage and the stage left (R133, R141). -/
def State.changeStage (s : State) (stage : Stage) : State :=
  (s.modWind (Wind.enterStage stage)).notice .windStage none stage.code.toNat s.wind.stage.code.toNat

/-- The watch-calm count has reached its time in WATCH: the trigger of WATCH_CALM_COMPLETE. -/
def State.watchCalmDone (s : State) : Bool :=
  s.wind.stage == .watch && decide (ticks s.settings.watchCalmTime ≤ s.wind.watchCalm)

/-- The release count has reached its time in HOLD: the trigger of RELEASE_COUNT_COMPLETE. -/
def State.releaseDone (s : State) : Bool :=
  s.wind.stage == .hold && decide (ticks s.settings.releaseTime ≤ s.wind.release)

/-- The clear-wait count has reached the clear wait in HOLD, and that has not been noted yet: the trigger of
CLEAR_WAIT_PASSED. -/
def State.clearWaitDone (s : State) : Bool :=
  s.wind.stage == .hold && decide (ticks s.settings.clearWait ≤ s.wind.clearWait) && !s.wind.clearPassed

/-- WATCH_CALM_COMPLETE (R134). -/
def State.calmDown (s : State) : State := s.changeStage .calm

/-- RELEASE_COUNT_COMPLETE (R136). -/
def State.releaseHold (s : State) : State := s.changeStage .watch

/-- CLEAR_WAIT_PASSED (R135). -/
def State.passClearWait (s : State) : State := s.modWind fun w => { w with clearPassed := true }

/-- The replica shows an occupied cabin (R73, R77). -/
def State.anyOccupied (s : State) : Bool := s.replica.records.any s.occupied

/-- CALM at a tick (R134). -/
def State.tickCalm (s : State) : State :=
  if s.wind.holding s.settings then s.changeStage .hold
  else if atLeast s.wind.gust s.settings.watchGust then s.changeStage .watch
  else s

/-- WATCH at a tick (R134). -/
def State.tickWatch (s : State) : State :=
  if s.wind.holding s.settings then s.changeStage .hold
  else
    let s := s.modWind fun w =>
      { w with watchCalm := if w.calming s.settings && !w.sensorFault then w.watchCalm + 1 else 0 }
    if s.watchCalmDone then s.calmDown else s

/-- HOLD passes to CLEAR (R137). -/
def State.clearing (s : State) : Bool :=
  s.wind.clearPassed && belowLimit s.wind.gust s.settings.creepCeiling && !s.wind.sensorFault && s.anyOccupied

/-- The clear-wait count at a tick in HOLD: one up, holding at the clear wait (R135). -/
def State.countClearWait (s : State) : State :=
  let s := s.modWind fun w => { w with clearWait := min (ticks s.settings.clearWait) (w.clearWait + 1) }
  if s.clearWaitDone then s.passClearWait else s

/-- HOLD at a tick: the clear wait, then release, then clearing (R135 to R137). -/
def State.tickHold (s : State) : State :=
  let s := s.countClearWait
  let s := s.modWind fun w =>
    { w with release := if w.releasing s.settings && w.ringFull && !w.sensorFault then w.release + 1 else 0 }
  if s.releaseDone then s.releaseHold
  else if s.clearing then s.changeStage .clear
  else s

/-- CLEAR at a tick (R138). -/
def State.tickClear (s : State) : State :=
  if !s.anyOccupied && !s.replica.divergence then s.changeStage .shut
  else if atLeast s.wind.gust s.settings.creepCeiling then s.changeStage .hold
  else s

/-- The stage is decided at a tick; while the gust is absent nothing is (R133). -/
def State.decideStage (s : State) : State :=
  if s.wind.gust = none then s
  else
    match s.wind.stage with
    | .calm => s.tickCalm
    | .watch => s.tickWatch
    | .hold => s.tickHold
    | .clear => s.tickClear
    | .shut => s

/-- A wind tick (R127): sample, sensor fault, rings, stage; the timer starts its next period. -/
def State.onWindTick (s : State) : State :=
  let t := tickSample s.wind.pending s.wind.last
  (s.modWind fun w =>
    Wind.enter t.1 (Wind.judgeSensor t.2 { w.sample with tick := some tickTime })).decideStage

/-- A result delivered to the Wind Monitor (R128, R153). -/
def State.deliverWind (s : State) (r : Result) : State :=
  if r.mode = .wind then s.modWind fun w => { w with pending := some r } else s

/-- WIND_RESUME (R139). -/
def State.askWindResume (s : State) : Answer × State :=
  match s.wind.stage with
  | .shut =>
    if s.wind.ringFull && !s.wind.sensorFault && s.wind.releasing s.settings then (.accepted, s.changeStage .calm)
    else (.refused .wind, s)
  | .calm | .watch | .hold | .clear => (.refused .notApplicable, s)

/-- The tick timer starts on entry to LISTENING from LOADING (R127). -/
def State.windStart (s : State) : State := s.modWind fun w => { w with tick := some tickTime }

/-- WIND_TICK (R127). -/
def execWindTick (s : State) : Answered := expires (fun s => s.wind.tick) State.onWindTick s

/-- SENSOR_FAULT_CLEAR (R130). -/
def execSensorFaultClear (s : State) : Answered :=
  occurs (fun s => s.role == .mast && s.wind.faultEnding) (fun s => s.modWind Wind.clearFault) s

/-- SLICE_COMPLETION (R132). -/
def execSliceCompletion (s : State) : Answered :=
  occurs (fun s => s.role == .mast && s.wind.sliceDue) (fun s => s.modWind fun w => w.completeSlice.setSustained) s

/-- WATCH_CALM_COMPLETE (R134). -/
def execWatchCalmComplete (s : State) : Answered :=
  occurs (fun s => s.role == .mast && s.watchCalmDone) State.calmDown s

/-- RELEASE_COUNT_COMPLETE (R136). -/
def execReleaseCountComplete (s : State) : Answered :=
  occurs (fun s => s.role == .mast && s.releaseDone) State.releaseHold s

/-- CLEAR_WAIT_PASSED (R135). -/
def execClearWaitPassed (s : State) : Answered :=
  occurs (fun s => s.role == .mast && s.clearWaitDone) State.passClearWait s

end Sys2Proof.Machine
end

