-- ==== Sys2Proof/Machine/Reception.lean ====
section
/-! DEFINITION. The Line Controller's receiving side: the checks of R6 to R11 and the deliveries of R12, with the answers to
asks (section 9.2). -/

namespace Sys2Proof.Machine

/-! ### Asks that name the own station (R165) -/

/-- The answer of the own role to an ask kind, with what it does (R96, R116, R122, R139, R165). -/
def State.answerAsk (s : State) (kind : AskKind) : Answer × State :=
  match s.role, kind with
  | .cabin, .doorOpen => s.askDoorOpen
  | .cabin, .doorClose => s.askDoorClose
  | .cabin, .dwell => s.askDwell
  | .cabin, .dwellEnd => s.askDwellEnd
  | .platform, .boardingOpen => (.accepted, s.setBoarding true)
  | .platform, .boardingShut => (.accepted, s.setBoarding false)
  | .platform, .zoneClear => (.accepted, s.clearZone)
  | .mast, .windResume => s.askWindResume
  | _, _ => (.refused .wrongRole, s)

/-- An ASK delivered (R165): one that names the own station is answered, any other is read for the ask marks (R118). -/
def State.takeAskFrame (s : State) (sender : Byte) (body : List Byte) : State :=
  let kind := AskKind.ofCode (byteAt body 1)
  if (byteAt body 0).toNat = s.station then
    match kind with
    | none => s.reply sender (byteAt body 2) (.refused .wrongRole)
    | some k => (s.answerAsk k).2.reply sender (byteAt body 2) (s.answerAsk k).1
  else
    match kind with
    | none => s
    | some k => s.noteAsk k (byteAt body 0).toNat

/-! ### Deliveries (R12) -/

/-- A NOTICE delivered to the role sequencer (R168). -/
def State.takeNotice (s : State) (sender : Nat) (body : List Byte) : State :=
  if s.role = .cabin then s.takePositionNotice sender body else s

/-- A STATE delivered: to the heard table, and a CABIN STATE to the replica (R12, R35, R68). -/
def State.takeState (s : State) (sender : Nat) (round : Byte) (body : List Byte) : State :=
  let h := HeardState.ofBody body
  let s' := s.enterState sender round h
  if h.body.role = .cabin then s'.takeCabinState sender round h.body else s'

/-- A MARK delivered (R30); while ISOLATED it counts for the isolation, taken or not (R24). -/
def State.takeMarkFrame (s : State) (sender : Nat) (round : Byte) (body : List Byte) : State :=
  if s.mode = .isolated then (s.judgeMark sender round body).countIsolation else s.judgeMark sender round body

/-- An accepted frame is delivered by its kind (R12). -/
def State.deliverFrame (s : State) (f : Frame) : State :=
  let sender := f.sender.toNat
  match classOfHeader f.header with
  | some .mark => s.takeMarkFrame sender f.round f.body
  | some .state => s.takeState sender f.round f.body
  | some .essential | some .info => s.takeNotice sender f.body
  | some .ask => s.takeAskFrame f.sender f.body
  | some .reply => s.takeReply sender f.body
  | none => s

/-! ### The checks -/

/-- The own number has been received (R10). -/
def State.lockOut (s : State) : State :=
  match s.mode with
  | .joined => s.leaveJoined .lockedOut
  | .listening | .isolated => (s.setMode .lockedOut).modLine fun l => { l with isoTimer := none }
  | .loading | .configFault | .lockedOut => s

/-- A frame is a stranger (R11). -/
def State.stranger (s : State) (f : Frame) : Bool :=
  let role := s.roleAt f.sender.toNat
  role == .absent ||
    (classOfHeader f.header == some .state && (HeardState.ofBody f.body).body.role != role)

/-- The own-number check, the stranger check and the delivery (R10 to R12). -/
def State.acceptFrame (s : State) (f : Frame) : State :=
  if f.sender.toNat = s.station then s.lockOut
  else if s.stranger f then s.setFlag .stranger
  else s.deliverFrame f

/-- The CRC check and the format check (R8, R9); a frame that passes is counted and offered to capture. -/
def State.judgeFrame (s : State) (f : Frame) : State :=
  if f.expectedCrc ≠ f.crc then (s.bump .crcErr).setFlag .crc
  else if formatOk f = false then (s.bump .formatErr).setFlag .format
  else ((s.bump .framesOk).offerCapture f.header f.sender f.round f.body false).acceptFrame f

/-- A runt (R7). -/
def State.countRunt (s : State) : State := (s.bump .runt).setFlag .runtLong

/-- A long frame (R7). -/
def State.countLong (s : State) : State := (s.bump .long).setFlag .runtLong

/-- The length check on the bytes after the sync byte (R7). -/
def State.judgeLength (s : State) (bytes : List Byte) : State :=
  let declared := (byteAt bytes 3).toNat
  if bytes.length < 6 then s.countRunt
  else if 32 < declared then s.countLong
  else if bytes.length < 6 + declared then s.countRunt
  else if 6 + declared < bytes.length then s.countLong
  else s.judgeFrame (Frame.ofBytes bytes)

/-- Noise and collision fragments are discarded without counting (R6); `broken` says that a break ended the sequence.
That the bytes before a later break are judged as R7 on judges them, also where all the declared bytes have come or the
declared length is above 32, and not counted as a runt whatever they are, is the model's choice (log 45). -/
def State.judgeSequence (s : State) (bytes : List Byte) (broken : Bool) : State :=
  match bytes with
  | [] => s
  | first :: rest =>
    if first ≠ syncByte then s
    else if broken ∧ rest.length < 2 then s
    else s.judgeLength rest

/-- A received sequence is judged at its frame end, when the line has been idle for 12 bit times (R4). -/
def State.hear (s : State) (bits : List LineBit) : State :=
  (s.modLine fun l => { l with idle := 12 }).judgeSequence (receive bits).1 (receive bits).2

/-- The time a received sequence takes: what is left of the 12 idle bit times before its first start bit (1.2), its bit
times, and the 12 idle bit times that end the frame (R4). In it another station drives the line, so no attempt can start
in it (R18, log 22). -/
def State.heardTime (s : State) (bits : List LineBit) : Nat := (12 - s.line.idle) + bits.length + 12

/-- FRAME_RECEPTION (R12): in a receiving mode, and not of the bits the station itself is sending. The time the sequence
takes passes, and it is judged at its end. -/
def execFrameReception (bits : List LineBit) (s : State) : Answered :=
  occurs (fun s => s.mode.receiving && !s.line.sending) (fun s => (s.elapse (s.heardTime bits)).hear bits) s

end Sys2Proof.Machine
end

