-- ==== Sys2Proof/Machine/Console.lean ====
section
/-! DEFINITION. The console's keys (section 9.4). -/

namespace Sys2Proof.Machine

/-- STOP and RESUME (R169). -/
def State.consoleStop (s : State) (on : Bool) : State := s.modConsole fun c => { c with stop := on }

/-- EVAC and EVAC_END (R169). -/
def State.consoleEvac (s : State) (on : Bool) : State := s.modConsole fun c => { c with evac := on }

/-- CONSOLE_KEY_STOP (R169). -/
def execConsoleKeyStop (s : State) : Answered := inputPulse .console 0 (fun s => s.consoleStop true) s

/-- CONSOLE_KEY_RESUME (R169). -/
def execConsoleKeyResume (s : State) : Answered := inputPulse .console 1 (fun s => s.consoleStop false) s

/-- KEY_EVAC (R169). -/
def execKeyEvac (s : State) : Answered := inputPulse .console 2 (fun s => s.consoleEvac true) s

/-- KEY_EVAC_END (R169). -/
def execKeyEvacEnd (s : State) : Answered := inputPulse .console 3 (fun s => s.consoleEvac false) s

end Sys2Proof.Machine
end

