-- ==== Sys2Proof/Machine/Records.lean ====
section
/-! DEFINITION. The record areas that the tap port reads, by the conventions of section 12.4 (R186; log 11, log 12, log 44). -/

namespace Sys2Proof.Machine

/-- One byte. -/
def oneByte (n : Nat) : List Byte := [BitVec.ofNat 8 n]

/-- A flag as a field of its own. -/
def flagField (b : Bool) : List Byte := [bitByte b]

/-- An optional field: a presence byte, and the value when it is there (12.4). -/
def optionalField {α : Type} (f : α → List Byte) : Option α → List Byte
  | none => [0]
  | some x => 1 :: f x

/-- A list of varying length: the number of its items, then the items (12.4). -/
def listField {α : Type} (f : α → List Byte) (items : List α) : List Byte := oneByte items.length ++ items.flatMap f

/-- A timer in units of 10 ms, rounded down, a stopped one 0 (12.4). -/
def timerField (t : Option Nat) : List Byte := twoBytes (t.getD 0 / ms 10)

/-- START index 0 (12.4, R181). -/
def State.startRecord (s : State) : List Byte :=
  [s.loader.phase.code] ++ oneByte s.station ++ oneByte s.loader.tries ++
    optionalField (fun v => [v]) s.loader.version ++ [s.loader.cause.code] ++ twoBytes s.loader.detail

/-- START index 1..8: 32 bytes of the image buffer (R186). -/
def State.imageRecord (s : State) (index : Nat) : List Byte := (s.loader.image.drop (32 * (index - 1))).take 32

/-- A queue entry of the LINE area: kind, class, attempt count, whether it is backing off. -/
def TxEntry.record (e : TxEntry) : List Byte :=
  [(FrameClass.kind e.cls).code, e.cls.code] ++ oneByte e.attempts ++
    flagField (match e.backoff with
      | none => false
      | some n => 0 < n)

/-- LINE (R186). -/
def State.lineRecord (s : State) : List Byte :=
  [s.mode.code] ++ oneByte s.line.isoScore ++ oneByte s.line.isoCount ++ flagField s.line.peersCongested ++
    listField TxEntry.record s.line.queue

/-- ROUND (R186). -/
def State.roundRecord (s : State) : List Byte :=
  [s.round.number] ++ timerField (some s.round.timer) ++ optionalField oneByte s.rank ++ oneByte s.round.marksTaken ++
    flagField s.round.firstMark ++ flagField s.round.roundLost

/-- Vote, reasons and role body. -/
def Statement.record (b : Statement) : List Byte := b.vote :: wordBytes b.reasons ++ [b.role.code] ++ b.fields

/-- A slot of the heard table, as carried. -/
def HeardState.record (h : HeardState) : List Byte := h.body.bytes h.congested

/-- HEARD (R186): a slot, with its side's round number. -/
def State.heardRecord (s : State) (index : Nat) : List Byte :=
  let side := if index < 64 then s.round.current else s.round.frozen
  optionalField HeardState.record ((side.slots[index % 64]?).getD none) ++ [side.round]

/-- ROSTER (R186). -/
def RosterEntry.record (e : RosterEntry) : List Byte :=
  [e.role.code] ++ optionalField oneByte e.cabin ++ optionalField oneByte e.rank ++ oneByte e.silentCount ++
    flagField e.silent ++ optionalField (fun b : Statement => [b.vote]) e.last ++
    optionalField (fun b : Statement => wordBytes b.reasons) e.last ++
    optionalField (fun b : Statement => b.role.code :: b.fields) e.last

/-- OWN (R186): the working side, or the published side where there is one. -/
def State.ownRecord (s : State) (index : Nat) : List Byte :=
  if index = 0 then s.round.working.record
  else
    match s.round.published with
    | none => []
    | some p => p.body.record ++ flagField p.congested ++ [p.round]

/-- A holder (R50, R186). -/
def Holder.record (h : Holder) : List Byte :=
  oneByte h.station ++ [Config.voteSourceCode h.source] ++ wordBytes h.reasons ++ flagField h.silent

/-- AGREEMENT (R186, 12.4): the record, or the k-th holder. The reasons set is three bytes, bit 16 (SILENT) in the first
of them (the model's choice, log 42). -/
def State.agreementRecord (s : State) (index : Nat) : List Byte :=
  let a := s.agreement
  if index = 0 then
    [a.level.code] ++ optionalField (fun r => [r]) a.roundClosed ++ flagField a.silentReason ++ wordBytes a.reasons ++
      flagField a.skew ++ oneByte a.holders.length
  else
    match a.holders[index - 1]? with
    | none => []
    | some h => h.record

/-- A cabin record with its AGED condition and read occupancy (R186). An unused record is sent whole, its absent owner as a
presence byte of 00h (log 11). That an UNKNOWN occupancy, stored or read, is FFh here as it is in a frame is the
model's choice (log 44). -/
def State.cabinRecord (s : State) (x : CabinRecord) : List Byte :=
  optionalField oneByte x.owner ++ [x.phase.code, x.marker.code, occupancyByte x.occupancy] ++
    optionalField twoBytes x.load ++ flagField x.latched ++ flagField x.dwell ++ [x.vote.code] ++
    optionalField (fun r => [r]) x.lastRound ++ oneByte x.freshness ++ flagField (s.aged x) ++
    [occupancyByte (s.readOccupancy x)]

/-- REPLICA (R186): a record, or the summary. -/
def State.replicaRecord (s : State) (index : Nat) : List Byte :=
  if index < 48 then s.cabinRecord (s.record index)
  else oneByte s.occupiedCount ++ wordBytes s.digest ++ flagField s.replica.divergence

/-- The fallback field of a zone entry: its code, and for PENDING its ask kind. That the kind follows as one byte, with no
presence byte and in no other state, is the model's choice (log 44); the codes are left open (log 12). -/
def Fallback.record : Fallback → List Byte
  | .unused => [Config.fallbackCode 0]
  | .due => [Config.fallbackCode 1]
  | .pending k _ => [Config.fallbackCode 2, k.code]
  | .used => [Config.fallbackCode 3]

/-- A zone entry (R104, R186). That an UNKNOWN aboard-at-arrival is FFh is the model's choice (log 44). -/
def ZoneEntry.record (e : ZoneEntry) : List Byte :=
  oneByte e.cabin ++ oneByte e.owner ++ [e.segment.code, e.mode.code, occupancyByte e.aboard] ++
    oneByte e.alighted ++ oneByte e.boarded ++ flagField e.closedByAsk ++ flagField e.openedByAsk ++
    flagField e.settle ++ oneByte e.mismatch ++ e.fallback.record

/-- A watched cabin (R110, R186). -/
def Watched.record (w : Watched) : List Byte := oneByte w.cabin ++ oneByte w.marks ++ flagField w.unready

/-- A gate: command, state, travel timer. That the command is 1 for OPEN and 0 for CLOSED is the model's choice (log 44). -/
def Gate.record (closed : Bool) (g : Gate) : List Byte :=
  flagField g.commandOpen ++ [(g.state closed).code] ++ timerField g.timer

/-- ROLE on a PLATFORM station (R186). -/
def State.platformRecord (s : State) (index : Nat) : List Byte :=
  let p := s.platform
  if index = 0 then
    [Config.boardingStateCode p.boardingState] ++ flagField p.boardingOpen ++ flagField p.unloading ++
      p.exitGate.record (s.gateClosed .exit) ++ p.entryGate.record (s.gateClosed .entry) ++
      [flagByte [p.orderFault, p.indexFault, p.phaseFault]] ++ flagField p.stopFlag ++ flagField p.rebuildPending
  else if index = 4 then listField Watched.record p.watch
  else
    match p.zone[index - 1]? with
    | none => []
    | some e => e.record

/-- ROLE on a CABIN station (R186). That an UNKNOWN occupancy is FFh is the model's choice (log 44). -/
def Cabin.record (c : Cabin) : List Byte :=
  [c.phase.code, c.marker.code, occupancyByte c.occupancy] ++ optionalField twoBytes c.load ++ flagField c.dwell ++
    flagField c.departPending ++ oneByte c.departCount ++ [Config.doorActionCode c.action] ++ oneByte c.attempts ++
    flagField c.awaiting ++ timerField c.openLimit ++ timerField c.closeLimit ++ timerField c.latchLimit ++
    timerField c.recloseDelay ++ timerField c.weighLimit ++ timerField c.dwellTimer

/-- ROLE on a DRIVE station (R186). -/
def Drive.record (d : Drive) : List Byte :=
  [d.state.code, d.target.code, d.demand.code] ++ oneByte d.confirm ++
    [flagByte [hasReason d.reasons .driveFault, hasReason d.reasons .brake, hasReason d.reasons .stopOverrun]] ++
    timerField d.releaseTimer ++ timerField d.stopTimer ++ timerField d.faultClearTimer ++
    timerField d.brakeCheckTimer

/-- A result record, as 12.4 lays it out for the CONVERTER area. -/
def Result.record (r : Result) : List Byte :=
  twoBytes r.count ++ [flagByte [r.polarity == .negative, r.overrange], r.mode.code, r.sequence]

/-- ROLE on a MAST station (R186). That the pending result is sent in the layout of the CONVERTER area, polarity and
overrange in one byte, is the model's choice (log 11). -/
def Wind.record (w : Wind) : List Byte :=
  timerField w.tick ++ optionalField Result.record w.pending ++ optionalField twoBytes w.last ++ oneByte w.miss ++
    flagField w.sensorFault ++ oneByte w.good ++ listField twoBytes w.ring ++ optionalField twoBytes w.gust ++
    twoBytes w.accSum ++ oneByte w.accCount ++ listField twoBytes w.slices ++ optionalField twoBytes w.sustained ++
    [w.stage.code] ++ twoBytes w.watchCalm ++ twoBytes w.release ++ twoBytes w.clearWait

/-- ROLE (R186). -/
def State.roleRecord (s : State) (index : Nat) : List Byte :=
  match s.role with
  | .platform => s.platformRecord index
  | .cabin => s.cabin.record
  | .drive => s.drive.record
  | .mast => s.wind.record
  | .console => flagField s.console.stop ++ flagField s.console.evac
  | .absent => []

/-- CONVERTER, but for its status byte, which the end of the answer adds (12.4, R154, log 23). -/
def Converter.bytes (c : Converter) : List Byte :=
  [c.phase.code] ++ [(c.mode.map ConvMode.code).getD 0] ++ optionalField Result.record c.record

/-- The status byte of a converter read (R154). -/
def Converter.statusByte (present : Bool) (c : Converter) : Byte := flagByte [c.stale, present]

/-- An ask entry (12.4). -/
def AskEntry.record (e : AskEntry) : List Byte :=
  if e.inUse then
    [e.state.code, e.origin.code, e.kind.code] ++ oneByte e.target ++ wordBytes e.argument ++ oneByte e.tag ++
      oneByte e.marks ++ optionalField (fun ok => [if ok then (0 : Byte) else 1]) e.accepted ++
      optionalField (fun r : ReplyReason => [r.code]) e.reason
  else [e.state.code]

/-- ASKS (12.4, R164). -/
def AskTable.record (a : AskTable) : List Byte :=
  a.entries.flatMap AskEntry.record ++ oneByte a.tagCounter ++ twoBytes a.lateReply

/-- A capture (12.4). -/
def Capture.record (c : Capture) : List Byte :=
  wordBytes c.sequence ++ [c.round, c.header, c.sender] ++ flagField c.own ++ oneByte c.body.length ++ c.body

/-- CAPTURE (R186, R192). -/
def State.captureRecord (s : State) (index : Nat) : List Byte :=
  match s.capture.reading index with
  | none => []
  | some c => c.record

/-- STATUS (12.4). -/
def Status.statusRecord (u : Status) : List Byte := wordBytes u.flags ++ wordBytes u.mask

/-- COUNTERS (12.4). -/
def Status.countersRecord (u : Status) : List Byte := u.counters.flatMap twoBytes

/-- The four causes as bits (12.4). -/
def Causes.byte (c : Causes) : Byte := flagByte [c.captureCount, c.captureTimer, c.flag, c.counter]

/-- CAUSES (12.4). -/
def Status.causesRecord (u : Status) : List Byte :=
  [u.causes.byte] ++ wordBytes u.flagDetail ++ wordBytes u.counterDetail ++ oneByte u.newCaptures ++
    oneByte (u.attnTimer.getD 0)

end Sys2Proof.Machine
end

