-- ==== Sys2Proof/Machine/Converter.lean ====
section
/-! DEFINITION. The Integrating Converter (chapter 8): one conversion is its mean input over the integrating time, and the
time its integrator takes back to zero (log 9). -/

namespace Sys2Proof.Machine

/-- The input that stands for the full scale, in microvolts (R145). -/
def fullScaleInput : Nat := 1000000

/-- The mode a role gives the converter (R144). -/
def modeOfRole : Role → Option ConvMode
  | .cabin => some .load
  | .mast => some .wind
  | .absent | .platform | .drive | .console => none

/-- The time from the start of DEINTEGRATING to the zero crossing, for a mean input (R148): the count of R145 times the
count period, exactly. -/
def crossingTime (m : ConvMode) (mean : Int) : Nat := mean.natAbs * fullScale m * countPeriod m / fullScaleInput

/-- The longest de-integration (R144). -/
def longestDeintegration (m : ConvMode) : Nat := fullScale m * countPeriod m

/-- The input is beyond the AIN range, so the full scale is reached before a zero crossing (R149). -/
def overRange (mean : Int) : Bool := decide (fullScaleInput ≤ mean.natAbs)

/-- The count of a conversion at its zero crossing (R145, R148). -/
def countOf (m : ConvMode) (mean : Int) : Nat := mean.natAbs * fullScale m / fullScaleInput

/-- The running count after a time of de-integration (R148). -/
def Converter.runningCount (c : Converter) : Nat :=
  match c.mode with
  | none => 0
  | some m => min (fullScale m) (c.deint / countPeriod m)

/-- The end of ZEROING (R146, R147). -/
def Converter.integrate (m : ConvMode) (c : Converter) : Converter :=
  { c with phase := .integrating, timer := some (integratingTime m) }

/-- The end of INTEGRATING: the polarity is decided and DEINTEGRATING begins (R147). -/
def Converter.deintegrate (mean : Int) (c : Converter) : Converter :=
  { c with
    phase := .deintegrating, timer := none, integrator := mean, deint := 0
    polarity := some (if mean < 0 then .negative else .positive) }

/-- The latch of a result (R150): sequence, record, stale marker, and ZEROING entered; the delivery follows it. -/
def Converter.latch (m : ConvMode) (count : Nat) (overrange : Bool) (c : Converter) : Converter :=
  Converter.zero m
    { c with
      sequence := c.sequence + 1
      record := some ⟨count, c.polarity.getD .positive, overrange, m, c.sequence + 1⟩
      stale := c.stale || c.reading }

/-- The copy of a latched result is handed to the role sequencer (R150, R153). -/
def State.deliver (s : State) : State :=
  match s.conv.record with
  | none => s
  | some r =>
    match s.role with
    | .cabin => s.deliverLoad r
    | .mast => s.deliverWind r
    | .absent | .platform | .drive | .console => s

/-- A conversion completes with a result (R150). -/
def State.latchResult (s : State) (m : ConvMode) (count : Nat) (overrange : Bool) : State :=
  (s.modConv (Converter.latch m count overrange)).deliver

/-- The converter is set into the mode of the role, which starts it (R144, R151). -/
def State.converterStart (s : State) : State :=
  (s.modConv fun c => { c with mode := modeOfRole s.role }).restartConverter

/-- A phase of the converter ends in its mode: the time it still takes passes, and `effect` acts. Nothing happens in
another phase (log 1, log 2). -/
def convStep (phase : ConvPhase) (ready : Converter → Bool) (left : ConvMode → Converter → Nat)
    (effect : ConvMode → State → State) (s : State) : Answered :=
  match s.conv.mode with
  | none => .next s
  | some m =>
    if s.resetHeld = false ∧ s.conv.phase = phase ∧ ready s.conv = true then
      .next (effect m (s.elapse (left m s.conv))).settle
    else .next s

/-- What is left of the running phase time. -/
def timeLeft (_ : ConvMode) (c : Converter) : Nat := c.timer.getD 0

/-- ZEROING_END (R146). -/
def execZeroingEnd (s : State) : Answered :=
  convStep .zeroing (fun _ => true) timeLeft (fun m s => s.modConv (Converter.integrate m)) s

/-- INTEGRATING_END (R147). -/
def execIntegratingEnd (microvolts : Int) (s : State) : Answered :=
  convStep .integrating (fun _ => true) timeLeft (fun _ s => s.modConv (Converter.deintegrate microvolts)) s

/-- ZERO_CROSSING_LATCH (R148, R150), for an input within the range. -/
def execZeroCrossingLatch (s : State) : Answered :=
  convStep .deintegrating (fun c => !overRange c.integrator) (fun m c => crossingTime m c.integrator - c.deint)
    (fun m s => s.latchResult m (countOf m s.conv.integrator) false) s

/-- OVERRANGE_LATCH (R149, R150), for an input at or beyond the range. -/
def execOverrangeLatch (s : State) : Answered :=
  convStep .deintegrating (fun c => overRange c.integrator) (fun m c => longestDeintegration m - c.deint)
    (fun m s => s.latchResult m (fullScale m) true) s

end Sys2Proof.Machine
end

