-- ==== Sys2Proof/Machine/Start.lean ====
section
/-! DEFINITION. Start reset, the Configuration Loader, the image and its checks (chapter 10, section 12.2), and the field
outputs. -/

namespace Sys2Proof.Machine

/-! ### Field outputs (R1, R54, R80, R114, R175) -/

/-- The field outputs that sink current, FO0 in bit 0 (R1, R175). A signal is active while its output sinks, but for a
drive's BRAKE_APPLY, which is active while FO0 is released. In LOADING and CONFIG_FAULT none sinks. -/
def State.sinking (s : State) : BitVec 12 :=
  if s.mode.receiving then
    match s.role with
    | .cabin =>
      let a := s.cabin.action
      BitVec.ofNat 12 (natOfBits [a == .openMove || a == .reverse, a == .closeMove, a == .openMove])
    | .platform => BitVec.ofNat 12 (natOfBits [s.platform.exitGate.commandOpen, s.platform.entryGate.commandOpen])
    | .drive =>
      BitVec.ofNat 12
        (natOfBits [!DriveState.braking s.drive.state, s.drive.demand == .creep, s.drive.demand == .cruise])
    | .mast | .console | .absent => 0
  else 0

/-! ### The image (R177, R200) -/

/-- A byte of the image. -/
def imageByte (image : List Byte) (i : Nat) : Nat := (image.getD i 0xFF).toNat

/-- A two-byte field of the image. -/
def imageWord (image : List Byte) (i : Nat) : Nat := imageByte image i * 256 + imageByte image (i + 1)

/-- A one-byte setting, its default in place of FFh (R200). -/
def setting1 (image : List Byte) (i dflt : Nat) : Nat := if imageByte image i = 255 then dflt else imageByte image i

/-- A two-byte setting, its default in place of FFFFh (R200). -/
def setting2 (image : List Byte) (i dflt : Nat) : Nat := if imageWord image i = 65535 then dflt else imageWord image i

/-- The round period of a period code (R200). -/
def periodOfCode (n : Nat) : Option Nat :=
  match n with
  | 0 => some 200 | 1 => some 250 | 2 => some 400 | 3 => some 500 | _ => none

/-- Round period code and period of the image. -/
def imagePeriod (image : List Byte) : Option Nat := periodOfCode (setting1 image 193 1)

/-- A silence vote of the image (R47, R200). -/
def imageLevel (image : List Byte) (i : Nat) (dflt : Level) : Option Level :=
  Level.ofCode (BitVec.ofNat 8 (setting1 image i dflt.toNat))

/-- A selector of the image or of a SET_SELECTOR transaction (R180, R189, R200): the inner `none` is unused, the outer a
selector that fails the judgement. -/
def readSelector (kind sender subkind : Byte) : Option (Option Selector) :=
  if kind = 0 then some none
  else
    let kindOf : Option (Option FrameKind) :=
      match kind.toNat with
      | 0x0E => some none
      | 1 => some (some .mark)
      | 2 => some (some .state)
      | 3 => some (some .notice)
      | 4 => some (some .ask)
      | 5 => some (some .reply)
      | _ => none
    let senderOf : Option (Option Nat) :=
      if sender = 0xFE then some none else if sender.toNat ≤ 63 then some (some sender.toNat) else none
    let subkindOf : Option (Option Nat) :=
      if subkind = 0xFE then some none
      else
        match kindOf with
        | some (some .notice) => (NoticeKind.ofCode subkind).map fun _ => some subkind.toNat
        | some (some .ask) => (AskKind.ofCode subkind).map fun _ => some subkind.toNat
        | some (some .mark) | some (some .state) | some (some .reply) | some none | none => none
    match kindOf, senderOf, subkindOf with
    | some k, some n, some x => some (some ⟨k, n, x⟩)
    | _, _, _ => none

/-- Default selector `j` of the image; FFh in its kind byte leaves it unused (R200). -/
def imageSelector (image : List Byte) (j : Nat) : Option (Option Selector) :=
  if imageByte image (229 + 3 * j) = 255 then some none
  else
    readSelector (BitVec.ofNat 8 (imageByte image (229 + 3 * j))) (BitVec.ofNat 8 (imageByte image (230 + 3 * j)))
      (BitVec.ofNat 8 (imageByte image (231 + 3 * j)))

/-- The settings of the image after their replacement (R177, R180). A period or a level whose code names none reads as its
default here; such an image fails its check. -/
def imageSettings (image : List Byte) : Settings where
  period := (imagePeriod image).getD 250
  attemptLimit := setting1 image 194 10
  silenceLimit := setting1 image 195 3
  silenceCabin := (imageLevel image 196 .creep).getD .creep
  silencePlatform := (imageLevel image 197 .stop).getD .stop
  silenceDrive := (imageLevel image 198 .stop).getD .stop
  silenceMast := (imageLevel image 199 .stop).getD .stop
  silenceConsole := (imageLevel image 200 .noLimit).getD .noLimit
  releaseConfirm := setting1 image 201 2
  stopTimeout := setting1 image 202 20
  capacity := setting1 image 203 25
  loadLimit := setting2 image 204 2400
  watchGust := setting2 image 206 120
  watchHysteresis := setting2 image 208 20
  watchCalmTime := setting2 image 210 60
  holdGust := setting2 image 212 180
  holdSustained := setting2 image 214 140
  releaseGust := setting2 image 216 150
  releaseSustained := setting2 image 218 110
  releaseTime := setting2 image 220 300
  creepCeiling := setting2 image 222 220
  clearWait := setting2 image 224 600
  congestion := setting1 image 226 4
  attentionCount := setting1 image 227 8
  attentionTimer := setting1 image 228 4

/-- A value lies in a range. -/
def within (lo n hi : Nat) : Bool := decide (lo ≤ n) && decide (n ≤ hi)

/-- The judgement of each setting, in the order of their numbers 1 to 31 (R180, R200). -/
def settingChecks (image : List Byte) : List Bool :=
  let g := imageSettings image
  [(imagePeriod image).isSome, g.attemptLimit == 10 || g.attemptLimit == 20, within 2 g.silenceLimit 6,
    (imageLevel image 196 .creep).isSome, (imageLevel image 197 .stop).isSome, (imageLevel image 198 .stop).isSome,
    (imageLevel image 199 .stop).isSome, (imageLevel image 200 .noLimit).isSome, within 1 g.releaseConfirm 4,
    within 10 g.stopTimeout 60, within 1 g.capacity 32, within 100 g.loadLimit 4000] ++
  [within 1 g.watchGust 500, within 0 g.watchHysteresis g.watchGust, within 15 g.watchCalmTime 600,
    within g.watchGust g.holdGust 500, within 1 g.holdSustained 500, within 1 g.releaseGust g.holdGust,
    within 1 g.releaseSustained g.holdSustained, within 60 g.releaseTime 1800, within g.holdGust g.creepCeiling 500,
    within 60 g.clearWait 3600] ++
  [within 0 g.congestion 16, within 1 g.attentionCount 32, within 1 g.attentionTimer 255] ++
  (List.range 6).map fun j => (imageSelector image j).isSome

/-- An image byte that holds a value or FFh for none. -/
def imageOptional (image : List Byte) (i : Nat) : Option Nat :=
  if imageByte image i = 255 then none else some (imageByte image i)

/-- The roster entry of a station as the image gives it, with the live fields at their start (R39, R45, R200); none where
it is not well formed (R179). -/
def imageEntry (image : List Byte) (n : Nat) : Option RosterEntry :=
  let cabin := imageOptional image (2 + 3 * n)
  let rank := imageOptional image (3 + 3 * n)
  match Role.ofCode (BitVec.ofNat 8 (imageByte image (1 + 3 * n))) with
  | none => none
  | some .cabin =>
    match cabin, rank with
    | some i, none => if i ≤ 47 then some ⟨.cabin, some i, none, 0, false, none⟩ else none
    | _, _ => none
  | some .absent =>
    match cabin, rank with
    | none, none => some RosterEntry.absent
    | _, _ => none
  | some role =>
    match cabin, rank with
    | none, none => some ⟨role, none, none, 0, false, none⟩
    | none, some k => if k ≤ 7 then some ⟨role, none, some k, 0, false, none⟩ else none
    | some _, _ => none

/-- The roster of the image; an entry that is not well formed reads ABSENT, and the image fails its check. -/
def imageRoster (image : List Byte) : List RosterEntry :=
  (List.range 64).map fun n => (imageEntry image n).getD RosterEntry.absent

/-- The first station number that passes a test. -/
def firstStation (test : Nat → Bool) : Option Nat := (List.range 64).find? test

/-- Entries of a role (R179). -/
def roleCount (roster : List RosterEntry) (role : Role) : Nat := (roster.filter fun e => e.role == role).length

/-- The role whose count is out of limits, first in the order of the table (R179, log 16). -/
def roleOutOfLimits (roster : List RosterEntry) : Option Role :=
  if !within 1 (roleCount roster .cabin) 48 then some .cabin
  else if roleCount roster .platform != 1 then some .platform
  else if !within 1 (roleCount roster .drive) 4 then some .drive
  else if !within 1 (roleCount roster .mast) 3 then some .mast
  else if !within 0 (roleCount roster .console) 2 then some .console
  else none

/-- The lowest value that two entries share, with the lower station number of its first pair: "the lower station number of
the first pair, by cabin index" or by rank (R179). -/
def sharedBy (roster : List RosterEntry) (field : RosterEntry → Option Nat) : List Nat → Option Nat
  | [] => none
  | v :: rest =>
    if 2 ≤ (roster.filter fun e => field e == some v).length then roster.findIdx? fun e => field e == some v
    else sharedBy roster field rest

/-- The judgement of a whole image for a strapped number: the cause and detail of the first failure (R178 to R180). -/
def imageFailure (image : List Byte) (station : Nat) : Option (StartCause × Nat) :=
  let roster := imageRoster image
  let crc := crc16 (image.take 254)
  if imageByte image 0 ≠ 1 then some (.version, imageByte image 0)
  else if crc.toNat ≠ imageWord image 254 then some (.crc, crc.toNat)
  else
    match firstStation fun n => (imageEntry image n).isNone with
    | some n => some (.rosterField, n)
    | none =>
      if (roster.getD station RosterEntry.absent).role = .absent then some (.ownAbsent, station)
      else
        match roleOutOfLimits roster, sharedBy roster RosterEntry.cabin (List.range 48),
          sharedBy roster RosterEntry.rank (List.range 8) with
        | some role, _, _ => some (.roleCount, role.code.toNat)
        | none, some n, _ => some (.cabinIndex, n)
        | none, none, some n => some (.rank, n)
        | none, none, none =>
          if roster.all fun e => e.rank.isNone then some (.noMarker, 0)
          else (settingChecks image).findIdx? (fun ok => !ok) |>.map fun k => (.range, k + 1)

/-! ### Loader (R176, R181, R182) -/

/-- The station enters CONFIG_FAULT with a cause and its detail (R181). -/
def State.configFault (s : State) (cause : StartCause) (detail : Nat) : State :=
  (s.modLoader fun l => { l with phase := .fault, cause := cause, detail := detail, retryWait := none }).setMode
    .configFault

/-- The wait between two tries (R176). -/
def retryTime : Nat := ms 5

/-- A read try fails: another after the wait, or CONFIG_FAULT at the third (R176). -/
def State.tryFails (s : State) (cause : StartCause) : State :=
  if 3 ≤ s.loader.tries then s.configFault cause 0
  else s.modLoader fun l => { l with retryWait := some retryTime }

/-- A read try begins: with CFG_SDA still low after nine clock pulses it fails at once (R176). -/
def State.beginTry (s : State) (sdaPulses : Nat) : State := if 9 < sdaPulses then s.tryFails .busStuck else s

/-- The owner of each configured cabin record goes to the replica, whose records take their start values (R66, R78,
R182). -/
def startRecords (roster : List RosterEntry) : List CabinRecord :=
  (List.range 48).map fun i =>
    match roster.findIdx? fun e => e.role == .cabin && e.cabin == some i with
    | none => CabinRecord.unused
    | some n => CabinRecord.start n

/-- The image is handed out to the blocks (R182). -/
def State.handOut (s : State) (image : List Byte) : State :=
  ((((s.modLoader fun l => { l with phase := .done }).modSettings fun _ => imageSettings image).modRoster
    fun _ => imageRoster image).modReplica fun r => { r with records := startRecords (imageRoster image) }).modCapture
    fun c => { c with selectors := (List.range 6).map fun j => (imageSelector image j).getD none }

/-- The role sequencer's work on entry to LISTENING from LOADING (R182). -/
def State.roleStart (s : State) : State :=
  match s.role with
  | .drive => s.driveStart
  | .cabin => s.cabinStart
  | .platform => s.platformStart
  | .mast => s.windStart
  | .console | .absent => s

/-- Entry to LISTENING from LOADING (R182). -/
def State.enterListening (s : State) : State :=
  (((s.setMode .listening).modRound fun r => { r with timer := 0, marksTaken := 0, firstMark := true })).converterStart
    |>.roleStart

/-- A try has completed with the bytes read: the image is kept, judged, and handed out or refused (R176 to R182). -/
def State.judgeImage (s : State) (bytes : List Byte) : State :=
  let image := (bytes ++ List.replicate 256 0xFF).take 256
  let s := s.modLoader fun l => { l with phase := .checking, image := image, version := image[0]? }
  match imageFailure image s.station with
  | some (cause, detail) => s.configFault cause detail
  | none => (s.handOut image).enterListening

/-- The two-wire address of the memory (section 10.2), a number of seven bits ahead of the direction bit (log 31). -/
def memoryAddress : BitVec 7 := 0x57

/-- The device address as it is sent, with the direction bit last: 0 for writing, 1 for reading (R176, log 31). -/
def deviceByte (reading : Bool) : Byte := memoryAddress ++ BitVec.ofBool reading

/-- How a byte that the part sends fails its try: a high bit read back low, else the acknowledge bit left high (R176). -/
def sentFault (sent : Byte) (seen : BitVec 9) : Option StartCause :=
  if sent &&& ~~~ seen.extractLsb' 1 8 ≠ 0 then some .busStuck
  else if seen.getLsbD 0 then some .noMemory
  else none

/-- The failure of a read try: that of the first byte to fail of those it sends, the device address for writing, the memory
address 0000h, and the device address for reading (R176). -/
def tryFailure (t : ReadTry) : Option StartCause :=
  [(deviceByte false, t.writeAddress), (0x00, t.memoryHigh), (0x00, t.memoryLow), (deviceByte true, t.readAddress)]
    |>.findSome? fun b => sentFault b.1 b.2

/-- A read try is in progress (R176). -/
def State.trying (s : State) : Bool :=
  s.mode == .loading && s.loader.phase == .reading && s.loader.retryWait.isNone

/-! ### Commands -/

/-- START_RESET (R174): every block at its start values, whatever the part is doing, until RESET_N returns high. The field
inputs and the commands that wait are outside the part. -/
def execStartReset (s : State) : Answered := .next { State.reset with fi := s.fi, pending := s.pending }

/-- RESET_RELEASE (R174, R25): the straps are sampled, the sequence is seeded, and the first try begins. -/
def execResetRelease (straps : BitVec 6) (sdaPulses : Nat) (s : State) : Answered :=
  if s.resetHeld then
    .next ((({ s with resetHeld := false, station := straps.toNat }).modLine fun l =>
      { l with prng := BitVec.ofNat 16 (straps.toNat + 1) }).beginTry sdaPulses).settle
  else .next s

/-- CONFIG_READ_TRY_END (R176). -/
def execConfigReadTryEnd (transfer : ReadTry) (s : State) : Answered :=
  occurs State.trying
    (fun s =>
      match tryFailure transfer with
      | some cause => s.tryFails cause
      | none => s.judgeImage transfer.bytes) s

/-- CONFIG_RETRY_WAIT_EXPIRY (R176): the next try begins. -/
def execConfigRetryWaitExpiry (sdaPulses : Nat) (s : State) : Answered :=
  expires (fun s => if s.mode = .loading then s.loader.retryWait else none)
    (fun s => (s.modLoader fun l => { l with tries := l.tries + 1, retryWait := none }).beginTry sdaPulses) s

end Sys2Proof.Machine
end

