-- ==== Sys2Proof/Machine/Tap.lean ====
section
/-! DEFINITION. The Tap Port: transactions, their refusals, answers, and what the end of an answer does (sections 11.1 to
11.3, R197). -/

namespace Sys2Proof.Machine

/-- Reasons of a refusal (R185, R201). -/
inductive TapRefusal where
  | unknown | notReady | wrongRole | badArea | badIndex | badArgument | full | noStation
  deriving DecidableEq, Repr

/-- Refusal codes (12.3). -/
def TapRefusal.code : TapRefusal → Byte
  | .unknown => 1 | .notReady => 2 | .wrongRole => 3 | .badArea => 4 | .badIndex => 5 | .badArgument => 6 | .full => 7
  | .noStation => 8

/-- An answer to a transaction (R185). -/
inductive TapAnswer where
  | done (data : List Byte)
  | taken (data : List Byte)
  | refused (reason : TapRefusal)
  deriving DecidableEq, Repr

/-- The bytes of an answer (R201). -/
def TapAnswer.bytes : TapAnswer → List Byte
  | .done data => 0x00 :: data
  | .taken data => 0x01 :: data
  | .refused r => [0x80, r.code]

/-- A record with its length byte; an absent one has length 0 (R201). -/
def lengthed (record : List Byte) : List Byte := BitVec.ofNat 8 record.length :: record

/-- The record areas (12.3). -/
inductive Area where
  | start | line | round | heard | roster | own | agreement | replica | role | converter | asks | capture | status
  | counters | causes
  deriving DecidableEq, Repr

/-- The area a code names (12.3). -/
def Area.ofCode (b : Byte) : Option Area :=
  match b.toNat with
  | 0x00 => some .start | 0x01 => some .line | 0x02 => some .round | 0x03 => some .heard | 0x04 => some .roster
  | 0x05 => some .own | 0x06 => some .agreement | 0x07 => some .replica | 0x08 => some .role | 0x09 => some .converter
  | 0x0A => some .asks | 0x0B => some .capture | 0x0C => some .status | 0x0D => some .counters | 0x0E => some .causes
  | _ => none

/-- The highest index of an area that READ_RECORD reads; none for one read by READ_CLEAR only (R186). -/
def Area.top (role : Role) : Area → Option Nat
  | .start => some 8
  | .line | .round | .converter | .asks => some 0
  | .heard => some 127
  | .roster => some 63
  | .own => some 1
  | .agreement => some 64
  | .replica => some 48
  | .role => some (if role = .platform then 4 else 0)
  | .capture => some 31
  | .status | .counters | .causes => none

/-- A selection may begin a transaction: none is in progress, or its bytes are being received (R184, log 10). -/
def State.tapFree (s : State) : Bool := s.tap.phase == .idle || s.tap.phase == .receiving

/-- The answer begins to shift out (R184). -/
def State.answer (s : State) (code : Byte) (args : List Byte) (a : TapAnswer) (ending : TapEnd) : State :=
  s.modTap fun t =>
    { t with
      phase := .answering, code := code, args := args, answer := a.bytes, pendingEnd := ending, renewedFlags := 0
      renewedCauses := Causes.empty }

/-- A transaction that counts as taken turns the capture switch on (R185, R190). -/
def State.switchOn (s : State) : State :=
  if s.mode.receiving then s.modCapture fun c => { c with on := true } else s

/-- A transaction is taken (R184): refused by its first case, or acting and answered. -/
def State.transact (s : State) (code : Byte) (args : List Byte) (refusal : Option TapRefusal)
    (act : State → (TapAnswer × TapEnd) × State) : State :=
  match refusal with
  | some .unknown => s.answer code args (.refused .unknown) .nothing
  | some .notReady => s.answer code args (.refused .notReady) .nothing
  | some r => s.switchOn.answer code args (.refused r) .nothing
  | none =>
    let out := act s.switchOn
    out.2.answer code args out.1.1 out.1.2

/-- The first refusal case that holds of a list, in the order of R185. -/
def firstCase : List (Bool × TapRefusal) → Option TapRefusal
  | [] => none
  | (holds, r) :: rest => if holds then some r else firstCase rest

/-- The station answers nothing but the start record area (R175, R185). -/
def State.notReady (s : State) : Bool := !s.mode.receiving

/-- The role may issue asks and keys (R185). -/
def Role.commands : Role → Bool
  | .console | .platform => true
  | .absent | .cabin | .drive | .mast => false

/-! ### READ_RECORD (R186) -/

/-- The record that the tap port has for an area and index, whether or not the station's mode lets a read of it be answered
(`State.readRefusal`); empty where the item is absent. In CONFIG_FAULT that of the converter shows phase IDLE, mode none
and the result record absent (R155). -/
def State.areaRecord (s : State) (area : Area) (index : Nat) : List Byte :=
  match area with
  | .start => if index = 0 then s.startRecord else s.imageRecord index
  | .line => s.lineRecord
  | .round => s.roundRecord
  | .heard => s.heardRecord index
  | .roster => (s.entryAt index).record
  | .own => s.ownRecord index
  | .agreement => s.agreementRecord index
  | .replica => s.replicaRecord index
  | .role => s.roleRecord index
  | .converter => s.conv.bytes
  | .asks => s.asks.record
  | .capture => s.captureRecord index
  | .status => s.status.statusRecord
  | .counters => s.status.countersRecord
  | .causes => s.status.causesRecord

/-- The refusal of a READ_RECORD (R185). In CONFIG_FAULT a read of the converter's record is refused like every read but that
of the START area (R175, R181, R185); what R155 has such a station show is then what `State.areaRecord` holds for it, and
what the start record's loader phase FAULT tells of it: the model's choice between the rules (log 37). -/
def State.readRefusal (s : State) (area index : Byte) : Option TapRefusal :=
  let a := Area.ofCode area
  let top := a.bind fun x => x.top s.role
  firstCase
    [(s.notReady && a != some .start, .notReady), (top.isNone, .badArea),
      (decide (top.getD 0 < index.toNat), .badIndex)]

/-- READ_RECORD acts (R154, R164, R186): a converter read sets the read-in-progress mark, clears the stale marker, and
leaves the status byte to its end. -/
def State.readRecord (s : State) (area : Area) (index : Nat) : (TapAnswer × TapEnd) × State :=
  let record := s.areaRecord area index
  match area with
  | .converter =>
    ((.done (BitVec.ofNat 8 (record.length + 1) :: record), .converter s.conv.record.isSome),
      s.modConv fun c => { c with reading := true, stale := false })
  | .asks => ((.done (lengthed record), .asks s.asks.lateReply), s)
  | .start | .line | .round | .heard | .roster | .own | .agreement | .replica | .role | .capture | .status
  | .counters | .causes => ((.done (lengthed record), .nothing), s)

/-- READ_RECORD (R186). -/
def execReadRecord (area index : Byte) (s : State) : Answered :=
  occurs State.tapFree
    (fun s => s.transact 0x01 [area, index] (s.readRefusal area index)
      fun s => s.readRecord ((Area.ofCode area).getD .start) index.toNat) s

/-! ### READ_CLEAR (R187) -/

/-- What a READ_CLEAR of an area shows and will clear; none for an area it does not read. -/
def State.clearing? (s : State) : Option Area → Option (List Byte × TapEnd)
  | some .status => some (s.status.statusRecord, .status s.status.flags)
  | some .counters => some (s.status.countersRecord, .counters s.status.counters)
  | some .causes => some (s.status.causesRecord, .causes s.status.causes s.status.newCaptures)
  | some .start | some .line | some .round | some .heard | some .roster | some .own | some .agreement
  | some .replica | some .role | some .converter | some .asks | some .capture | none => none

/-- READ_CLEAR (R187). -/
def execReadClear (area : Byte) (s : State) : Answered :=
  occurs State.tapFree
    (fun s =>
      s.transact 0x02 [area]
        (firstCase [(s.notReady, .notReady), ((s.clearing? (Area.ofCode area)).isNone, .badArea)])
        fun s =>
          match s.clearing? (Area.ofCode area) with
          | none => ((.refused .badArea, .nothing), s)
          | some (record, ending) => ((.done (lengthed record), ending), s)) s

/-! ### RELEASE, SET_MASK, SET_SELECTOR (R189, R192) -/

/-- RELEASE acts (R192). -/
def State.releaseCaptures (s : State) (n : Nat) : (TapAnswer × TapEnd) × State :=
  ((.done (oneByte (min n s.capture.readers)), .nothing), s.modCapture (CaptureStore.release n))

/-- RELEASE (R192). -/
def execRelease (count : Byte) (s : State) : Answered :=
  occurs State.tapFree
    (fun s =>
      s.transact 0x03 [count] (firstCase [(s.notReady, .notReady), (decide (32 < count.toNat), .badArgument)])
        fun s => s.releaseCaptures count.toNat) s

/-- SET_MASK (R189, R201). -/
def execSetMask (flags : BitVec 24) (s : State) : Answered :=
  occurs State.tapFree
    (fun s =>
      s.transact 0x06 [flags.extractLsb' 16 8, flags.extractLsb' 8 8, flags.extractLsb' 0 8]
        (firstCase [(s.notReady, .notReady), (decide (65536 ≤ flags.toNat), .badArgument)])
        fun s => ((.done [], .nothing), s.modStatus fun u => { u with mask := flags.setWidth 16 })) s

/-- SET_SELECTOR (R189). -/
def execSetSelector (n kind sender subkind : Byte) (s : State) : Answered :=
  occurs State.tapFree
    (fun s =>
      s.transact 0x07 [n, kind, sender, subkind]
        (firstCase
          [(s.notReady, .notReady),
            (decide (5 < n.toNat) || (readSelector kind sender subkind).isNone, .badArgument)])
        fun s =>
          ((.done [], .nothing), s.modCapture fun c =>
            { c with selectors := c.selectors.set n.toNat ((readSelector kind sender subkind).getD none) })) s

/-! ### ASK and KEY (R170, R188) -/

/-- The answer to a tap ASK from what the Ask Table decided (R188). -/
def tapAskAnswer : AskOffered → TapAnswer
  | .noStation => .refused .noStation
  | .full => .refused .full
  | .taken entry tag => .taken (oneByte entry ++ oneByte tag)

/-- ASK acts (R188). -/
def State.tapAsk (s : State) (kind : AskKind) (target : Nat) (argument : Word) : (TapAnswer × TapEnd) × State :=
  let out := s.offerAsk .tap kind target argument fun _ t => t
  ((tapAskAnswer out.1, .nothing), out.2)

/-- ASK (R188). -/
def execAsk (kind target : Byte) (argument : Word) (s : State) : Answered :=
  occurs State.tapFree
    (fun s =>
      s.transact 0x04 ([kind, target] ++ wordBytes argument)
        (firstCase
          [(s.notReady, .notReady), (!Role.commands s.role, .wrongRole),
            ((AskKind.ofCode kind).isNone || decide (63 < target.toNat), .badArgument)])
        fun s => s.tapAsk ((AskKind.ofCode kind).getD .doorOpen) target.toNat argument) s

/-- What a key does on the own role, if it is in its list (R170). -/
def State.keyEffect (s : State) (key : Key) : Option State :=
  match s.role, key with
  | .console, .stop => some (s.consoleStop true)
  | .console, .resume => some (s.consoleStop false)
  | .console, .evac => some (s.consoleEvac true)
  | .console, .evacEnd => some (s.consoleEvac false)
  | .platform, .boardOpen => some (s.setBoarding true)
  | .platform, .boardShut => some (s.setBoarding false)
  | .platform, .stop => some (s.setStop true)
  | .platform, .resume => some (s.setStop false)
  | .platform, .dwell => some (s.dwellKey .dwell)
  | .platform, .dwellEnd => some (s.dwellKey .dwellEnd)
  | .platform, .zoneClear => some s.clearZone
  | _, _ => none

/-- What a key code does on the own role. -/
def State.keyCodeEffect (s : State) (code : Byte) : Option State := (Key.ofCode code).bind s.keyEffect

/-- KEY (R170, R185, R188). A code that names no key (0, or above 9) is refused with WRONG_ROLE, as a key that is not in
the own role's list: the model's choice (log 43). -/
def execKey (code : Byte) (s : State) : Answered :=
  occurs State.tapFree
    (fun s =>
      s.transact 0x05 [code]
        (firstCase
          [(s.notReady, .notReady), (!Role.commands s.role || (s.keyCodeEffect code).isNone, .wrongRole)])
        fun s => ((.done [], .nothing), (s.keyCodeEffect code).getD s)) s

/-- The argument bytes that a transaction code fixes (R201); none for a code that names no transaction. -/
def argumentCount (code : Byte) : Option Nat :=
  match code.toNat with
  | 1 => some 2 | 2 => some 1 | 3 => some 1 | 4 => some 4 | 5 => some 1 | 6 => some 3 | 7 => some 4 | _ => none

/-- The codes of R201. -/
def knownCode (code : Byte) : Bool := (argumentCount code).isSome

/-- The transaction that the bytes of a selection bring the port to take (R184, R201): at its last argument byte, or at the
first byte of a code that names none; none while bytes are still to come. The bytes after it are ignored. The three
bytes of a SET_MASK argument come high byte first (the model's choice, log 42). -/
def transactionOf : List Byte → Option Instr
  | [] => none
  | code :: rest =>
    match argumentCount code with
    | none => some (.unknownTransactionCode code)
    | some n =>
      if rest.length < n then none
      else
        match code.toNat with
        | 1 => some (.readRecord (byteAt rest 0) (byteAt rest 1))
        | 2 => some (.readClear (byteAt rest 0))
        | 3 => some (.release (byteAt rest 0))
        | 4 => some (.ask (byteAt rest 0) (byteAt rest 1) (wordOf (byteAt rest 2) (byteAt rest 3)))
        | 5 => some (.key (byteAt rest 0))
        | 6 => some (.setMask (byteAt rest 0 ++ (byteAt rest 1 ++ byteAt rest 2)))
        | 7 => some (.setSelector (byteAt rest 0) (byteAt rest 1) (byteAt rest 2) (byteAt rest 3))
        | _ => none

/-- UNKNOWN_TRANSACTION_CODE (R184, R185). -/
def execUnknownTransactionCode (code : Byte) (s : State) : Answered :=
  occurs (fun s => s.tapFree && !knownCode code)
    (fun s => s.transact code [] (some .unknown) fun s => ((.refused .unknown, .nothing), s)) s

/-! ### The end of an answer (R154, R164, R187) -/

/-- The flags shown are cleared, unless renewed (R187). -/
def Status.clearFlags (shown renewed : Word) (u : Status) : Status :=
  { u with flags := u.flags &&& ~~~ (shown &&& ~~~ renewed) }

/-- Each counter is lowered by the value shown (R187, R196). -/
def Status.lowerCounters (shown : List Nat) (u : Status) : Status :=
  { u with counters := u.counters.zipWith (· - ·) shown }

/-- The causes shown are cleared unless renewed, with their detail; the new-capture count is lowered, and the attention
timer starts again while captures wait and no capture cause stands (R187, R197). -/
def Status.clearCauses (shown renewed : Causes) (count : Nat) (u : Status) : Status :=
  let keeps (now was again : Bool) : Bool := now && (!was || again)
  let causes : Causes :=
    ⟨keeps u.causes.captureCount shown.captureCount renewed.captureCount,
      keeps u.causes.captureTimer shown.captureTimer renewed.captureTimer,
      keeps u.causes.flag shown.flag renewed.flag, keeps u.causes.counter shown.counter renewed.counter⟩
  let left := u.newCaptures - count
  { u with
    causes := causes
    flagDetail := if causes.flag then u.flagDetail else 0
    counterDetail := if causes.counter then u.counterDetail else 0
    newCaptures := left
    attnTimer := if 0 < left && !causes.captureCount && !causes.captureTimer then some 0 else none }

/-- What the end of the answer in progress adds to its bytes: a converter read ends with the status byte as it stands then
(R154, 12.4). -/
def State.answerTail (s : State) : List Byte :=
  match s.tap.pendingEnd with
  | .converter present => [s.conv.statusByte present]
  | .nothing | .status _ | .counters _ | .causes _ _ | .asks _ => []

/-- The byte that TAP_DO gives at the `k`-th byte clocked after the taking, from 0: the answer, and FFh after it (R184,
R201); none while no answer is being shifted out. -/
def State.tapOut (s : State) (k : Nat) : Option Byte :=
  match s.tap.phase with
  | .idle | .receiving => none
  | .answering => some ((s.tap.answer ++ s.answerTail).getD k 0xFF)
  | .done => some (s.tap.answer.getD k 0xFF)

/-- What the end of the answer in progress does. -/
def State.endAnswer (s : State) : State :=
  match s.tap.pendingEnd with
  | .nothing => s
  | .status shown => s.modStatus (Status.clearFlags shown s.tap.renewedFlags)
  | .counters shown => s.modStatus (Status.lowerCounters shown)
  | .causes shown count => s.modStatus (Status.clearCauses shown s.tap.renewedCauses count)
  | .converter _ =>
    (s.modTap fun t => { t with answer := t.answer ++ s.answerTail }).modConv fun c =>
      { c with reading := false, stale := false }
  | .asks late => s.modAsks fun a => { a with lateReply := a.lateReply - late }

/-- The transaction is DONE; its marks are dropped (R184). -/
def Tap.finish (t : Tap) : Tap :=
  { t with phase := .done, pendingEnd := .nothing, renewedFlags := 0, renewedCauses := Causes.empty }

/-- ANSWER_COMPLETE (R184, R187): the last byte of the answer has been shifted out. -/
def execAnswerComplete (s : State) : Answered :=
  occurs (fun s => s.tap.phase == .answering) (fun s => s.endAnswer.modTap Tap.finish) s

/-- A converter read cut short ends without clearing the stale marker (R154). -/
def State.cutShort (s : State) : State :=
  match s.tap.pendingEnd with
  | .converter _ => s.modConv fun c => { c with reading := false }
  | .nothing | .status _ | .counters _ | .causes _ _ | .asks _ => s

/-- SELECTION_END (R184): the selection is over; what the transaction did when it was taken stands. -/
def execSelectionEnd (s : State) : Answered :=
  occurs (fun s => s.tap.phase != .idle) (fun s => s.cutShort.modTap fun _ => Tap.reset) s

/-! ### Attention causes as commands (R196, R197) -/

/-- CAPTURE_COUNT_REACHED (R197). -/
def execCaptureCountReached (s : State) : Answered :=
  occurs (fun s => s.mode.receiving && s.captureCountReached && !s.status.causes.captureCount)
    State.latchCaptureCount s

/-- ATTENTION_TIMER_EXPIRY (R197). -/
def execAttentionTimerExpiry (s : State) : Answered :=
  occurs (fun s => s.mode.receiving && s.attentionTimerReached) State.latchCaptureTimer s

/-- COUNTER_HALF_SCALE (R196) of one counter. -/
def execCounterHalfScale (counter : Counter) (s : State) : Answered :=
  occurs (fun s => s.mode.receiving && s.halfScaleDue counter) (fun s => s.latchCounter counter) s

end Sys2Proof.Machine
end

