-- ==== Sys2Proof/Machine/Dispatch.lean ====
section
/-! DEFINITION. One arm per command. -/

namespace Sys2Proof.Machine

def exec (i : Instr) (s : State) : Host.Outcome State Fault Refusal :=
  match i with
  | .startReset => Sys2Proof.Machine.execStartReset s
  | .resetRelease straps sdaPulses => Sys2Proof.Machine.execResetRelease straps sdaPulses s
  | .configReadTryEnd transfer => Sys2Proof.Machine.execConfigReadTryEnd transfer s
  | .configRetryWaitExpiry sdaPulses => Sys2Proof.Machine.execConfigRetryWaitExpiry sdaPulses s
  | .frameReception bits => Sys2Proof.Machine.execFrameReception bits s
  | .stationSilentEntry station => Sys2Proof.Machine.execStationSilentEntry station s
  | .join => Sys2Proof.Machine.execJoin s
  | .releaseConfirmed => Sys2Proof.Machine.execReleaseConfirmed s
  | .askExpiry entry => Sys2Proof.Machine.execAskExpiry entry s
  | .fallbackAsk place => Sys2Proof.Machine.execFallbackAsk place s
  | .departureUnready cabin => Sys2Proof.Machine.execDepartureUnready cabin s
  | .departMarkCountEnd => Sys2Proof.Machine.execDepartMarkCountEnd s
  | .isolationEnd => Sys2Proof.Machine.execIsolationEnd s
  | .transmitAttemptStart => Sys2Proof.Machine.execTransmitAttemptStart s
  | .collision readBack => Sys2Proof.Machine.execCollision readBack s
  | .excessAttemptsDiscard => Sys2Proof.Machine.execExcessAttemptsDiscard s
  | .lateCollision readBack => Sys2Proof.Machine.execLateCollision readBack s
  | .backoffExpiry place => Sys2Proof.Machine.execBackoffExpiry place s
  | .stateStaggerExpiry => Sys2Proof.Machine.execStateStaggerExpiry s
  | .transmissionSuccess readBack => Sys2Proof.Machine.execTransmissionSuccess s readBack
  | .isolationEntry => Sys2Proof.Machine.execIsolationEntry s
  | .isolationPeriodExpiry => Sys2Proof.Machine.execIsolationPeriodExpiry s
  | .earlyMarkWindowEnd => Sys2Proof.Machine.execEarlyMarkWindowEnd s
  | .markOfferTime => Sys2Proof.Machine.execMarkOfferTime s
  | .roundLoss => Sys2Proof.Machine.execRoundLoss s
  | .founding => Sys2Proof.Machine.execFounding s
  | .driveFaultActive => Sys2Proof.Machine.execDriveFaultActive s
  | .driveFaultInactive => Sys2Proof.Machine.execDriveFaultInactive s
  | .brakeReleasedActive => Sys2Proof.Machine.execBrakeReleasedActive s
  | .brakeReleasedInactive => Sys2Proof.Machine.execBrakeReleasedInactive s
  | .stationaryActive => Sys2Proof.Machine.execStationaryActive s
  | .stationaryInactive => Sys2Proof.Machine.execStationaryInactive s
  | .releaseTimerExpiry => Sys2Proof.Machine.execReleaseTimerExpiry s
  | .stopTimerExpiry => Sys2Proof.Machine.execStopTimerExpiry s
  | .brakeCheckTimerExpiry => Sys2Proof.Machine.execBrakeCheckTimerExpiry s
  | .faultClearTimerExpiry => Sys2Proof.Machine.execFaultClearTimerExpiry s
  | .openEndActive level => Sys2Proof.Machine.execOpenEndActive level s
  | .closedEndActive => Sys2Proof.Machine.execClosedEndActive s
  | .closedEndInactive => Sys2Proof.Machine.execClosedEndInactive s
  | .latchedActive => Sys2Proof.Machine.execLatchedActive s
  | .latchedInactive => Sys2Proof.Machine.execLatchedInactive s
  | .obstructionActive level => Sys2Proof.Machine.execObstructionActive level s
  | .openLimitExpiry => Sys2Proof.Machine.execOpenLimitExpiry s
  | .closeLimitExpiry => Sys2Proof.Machine.execCloseLimitExpiry s
  | .latchLimitExpiry => Sys2Proof.Machine.execLatchLimitExpiry s
  | .recloseDelayExpiry => Sys2Proof.Machine.execRecloseDelayExpiry s
  | .weighingLimitExpiry => Sys2Proof.Machine.execWeighingLimitExpiry s
  | .dwellTimerExpiry => Sys2Proof.Machine.execDwellTimerExpiry s
  | .callKeyActive => Sys2Proof.Machine.execCallKeyActive s
  | .mkArrive index valid => Sys2Proof.Machine.execMkArrive index valid s
  | .mkTurn => Sys2Proof.Machine.execMkTurn s
  | .mkClose => Sys2Proof.Machine.execMkClose s
  | .mkDepart => Sys2Proof.Machine.execMkDepart s
  | .beamCrossing beam => Sys2Proof.Machine.execBeamCrossing beam s
  | .gatePositionChange gate closed => Sys2Proof.Machine.execGatePositionChange gate closed s
  | .gateTravelExpiry gate => Sys2Proof.Machine.execGateTravelExpiry gate s
  | .keyBoardOpen => Sys2Proof.Machine.execKeyBoardOpen s
  | .keyBoardShut => Sys2Proof.Machine.execKeyBoardShut s
  | .keyStop => Sys2Proof.Machine.execKeyStop s
  | .keyResume => Sys2Proof.Machine.execKeyResume s
  | .keyDwell => Sys2Proof.Machine.execKeyDwell s
  | .keyDwellEnd => Sys2Proof.Machine.execKeyDwellEnd s
  | .keyZoneClear => Sys2Proof.Machine.execKeyZoneClear s
  | .consoleKeyStop => Sys2Proof.Machine.execConsoleKeyStop s
  | .consoleKeyResume => Sys2Proof.Machine.execConsoleKeyResume s
  | .keyEvac => Sys2Proof.Machine.execKeyEvac s
  | .keyEvacEnd => Sys2Proof.Machine.execKeyEvacEnd s
  | .windTick => Sys2Proof.Machine.execWindTick s
  | .sensorFaultClear => Sys2Proof.Machine.execSensorFaultClear s
  | .sliceCompletion => Sys2Proof.Machine.execSliceCompletion s
  | .watchCalmComplete => Sys2Proof.Machine.execWatchCalmComplete s
  | .releaseCountComplete => Sys2Proof.Machine.execReleaseCountComplete s
  | .clearWaitPassed => Sys2Proof.Machine.execClearWaitPassed s
  | .zeroingEnd => Sys2Proof.Machine.execZeroingEnd s
  | .integratingEnd microvolts => Sys2Proof.Machine.execIntegratingEnd microvolts s
  | .zeroCrossingLatch => Sys2Proof.Machine.execZeroCrossingLatch s
  | .overrangeLatch => Sys2Proof.Machine.execOverrangeLatch s
  | .readRecord area index => Sys2Proof.Machine.execReadRecord area index s
  | .readClear area => Sys2Proof.Machine.execReadClear area s
  | .release count => Sys2Proof.Machine.execRelease count s
  | .ask kind target argument => Sys2Proof.Machine.execAsk kind target argument s
  | .key code => Sys2Proof.Machine.execKey code s
  | .setMask flags => Sys2Proof.Machine.execSetMask flags s
  | .setSelector n kind sender subkind => Sys2Proof.Machine.execSetSelector n kind sender subkind s
  | .answerComplete => Sys2Proof.Machine.execAnswerComplete s
  | .selectionEnd => Sys2Proof.Machine.execSelectionEnd s
  | .captureCountReached => Sys2Proof.Machine.execCaptureCountReached s
  | .attentionTimerExpiry => Sys2Proof.Machine.execAttentionTimerExpiry s
  | .counterHalfScale counter => Sys2Proof.Machine.execCounterHalfScale counter s
  | .unknownTransactionCode code => Sys2Proof.Machine.execUnknownTransactionCode code s

end Sys2Proof.Machine
end

