-- ==== Sys2Proof/Safety.lean ====
section
/-! DEFINITION. The terms the claims use: the parts of the state a command may leave alone, and what must hold of a sound
station in every state. -/

namespace Sys2Proof.Machine

/-! ### Parts of the state -/

/-- The parts of the state that a claim can say are unchanged. Left out of all of them are the marks the model keeps
within one step (log 25). -/
inductive Part where
  | fi | filter | resetHeld | pending | mode | station | loader | settings | roster | queue | idle | line | round | working
  | agreement | drive | replica | cabin | platform | gates | wind | conv | asks | console | tap | renewal | capture
  | flags | counters | attention
  deriving DecidableEq, Repr

/-- A part is the same in two states. `fi` are the levels of the field inputs, `filter` the times until further changes of
them can count; `queue` is the transmit queue with the MARK that waits for a place in it, `idle` the
idle time of the line, `line` the rest of the Line Controller; `working` is the working side of the own STATE, `round` the
rest of the Round Controller; `gates` are the platform's gates, `platform` the rest of its sequencer; `renewal` are the
renewal marks of the tap port, `tap` the rest of it. -/
def State.same (p : Part) (s t : State) : Prop :=
  match p with
  | .fi => s.fi = t.fi
  | .filter => s.filter = t.filter
  | .resetHeld => s.resetHeld = t.resetHeld
  | .pending => s.pending = t.pending
  | .mode => s.mode = t.mode
  | .station => s.station = t.station
  | .loader => s.loader = t.loader
  | .settings => s.settings = t.settings
  | .roster => s.roster = t.roster
  | .queue => s.line.queue = t.line.queue ∧ s.line.markWaiting = t.line.markWaiting
  | .idle => s.line.idle = t.line.idle
  | .line => { s.line with queue := t.line.queue, markWaiting := t.line.markWaiting, idle := t.line.idle } = t.line
  | .round => { s.round with working := t.round.working } = t.round
  | .working => s.round.working = t.round.working
  | .agreement => s.agreement = t.agreement
  | .drive => s.drive = t.drive
  | .replica => s.replica = t.replica
  | .cabin => s.cabin = t.cabin
  | .platform =>
    { s.platform with
      exitGate := t.platform.exitGate, entryGate := t.platform.entryGate, phaseFresh := t.platform.phaseFresh } =
      t.platform
  | .gates => s.platform.exitGate = t.platform.exitGate ∧ s.platform.entryGate = t.platform.entryGate
  | .wind => s.wind = t.wind
  | .conv => s.conv = t.conv
  | .asks => s.asks = t.asks
  | .console => s.console = t.console
  | .tap =>
    { s.tap with renewedFlags := t.tap.renewedFlags, renewedCauses := t.tap.renewedCauses } = t.tap
  | .renewal => s.tap.renewedFlags = t.tap.renewedFlags ∧ s.tap.renewedCauses = t.tap.renewedCauses
  | .capture => s.capture = t.capture
  | .flags => s.status.flags = t.status.flags ∧ s.status.mask = t.status.mask
  | .counters => s.status.counters = t.status.counters
  | .attention =>
    s.status.causes = t.status.causes ∧ s.status.flagDetail = t.status.flagDetail ∧
      s.status.counterDetail = t.status.counterDetail ∧ s.status.newCaptures = t.status.newCaptures ∧
      s.status.attnTimer = t.status.attnTimer

/-- Every part but the named ones is the same in two states. -/
def State.sameBut (ps : List Part) (s t : State) : Prop := ∀ p, p ∉ ps → State.same p s t

/-- What follows every change of the state: the gate commands and the working side of the own STATE (R37, R114). -/
def followers : List Part := [.gates, .working]

/-- What an error flag or a counter that rises may change: the flags, the counters, and the attention causes and renewal
marks that go with them (R187, R194 to R197). -/
def statusParts : List Part := [.flags, .counters, .attention, .renewal]

/-- What a notice, a reply or an ask offered to the queue may change: the queue, and the status parts, for a frame that is
displaced or refused (R13 to R16). -/
def queueParts : List Part := .queue :: statusParts

/-- The station runs: RESET_N is high, and the mode is neither LOADING nor CONFIG_FAULT (1.2, R175). -/
def State.running (s : State) : Prop := s.resetHeld = false ∧ s.mode.receiving = true

/-- The station takes what it hears: it runs and is not sending (1.2). -/
def State.hearing (s : State) : Prop := s.running ∧ s.line.sending = false

/-- Field input `n` has taken a level, and no other has changed; a further change of it must be steady for 5 ms from
now (R2). -/
def State.inputTaken (n : Nat) (level : Bool) (s t : State) : Prop :=
  (∀ m, t.input m = if m = n then level else s.input m) ∧ t.filter = s.filter.set n 5000

/-- Field input `n` has become active; before it can count again it must be inactive and active again, 5 ms each (R2). -/
def State.pulseTaken (n : Nat) (s t : State) : Prop := t.filter = s.filter.set n 10000

/-- The field input whose change a command is (R1). -/
def inputLine : Instr → Option Nat
  | .brakeReleasedActive | .brakeReleasedInactive | .openEndActive _ | .mkArrive _ _ | .consoleKeyStop => some 0
  | .stationaryActive | .stationaryInactive | .closedEndActive | .closedEndInactive | .mkTurn | .consoleKeyResume =>
    some 1
  | .driveFaultActive | .driveFaultInactive | .latchedActive | .latchedInactive | .mkClose | .keyEvac => some 2
  | .obstructionActive _ | .mkDepart | .keyEvacEnd => some 3
  | .callKeyActive => some 4
  | .beamCrossing .exitOut => some 11
  | .beamCrossing .exitIn => some 12
  | .beamCrossing .entryIn => some 13
  | .beamCrossing .entryOut => some 14
  | .gatePositionChange .exit _ => some 15
  | .gatePositionChange .entry _ => some 16
  | .keyBoardOpen => some 17
  | .keyBoardShut => some 18
  | .keyStop => some 19
  | .keyResume => some 20
  | .keyDwell => some 21
  | .keyDwellEnd => some 22
  | .keyZoneClear => some 23
  | _ => none

/-- The time since the last change of the input that a command changes suffices for this one to have been steady (R2). -/
def State.steadyFor (s : State) (c : Instr) : Prop := ∀ n, inputLine c = some n → s.filterPassed n = true

/-- A NOTICE, ASK or REPLY offered now takes a free place (R14, R15, R16). -/
def State.hasRoom (s : State) : Prop :=
  s.mode = .joined ∧ s.line.queue.length < 8 ∧ s.line.peersCongested = false

/-- The queue of `t` is that of `s` with one more frame at its end, fresh (R13). -/
def State.queuedAlso (s t : State) (cls : FrameClass) (body : List Byte) : Prop :=
  t.line.queue = s.line.queue ++ [TxEntry.fresh cls body none]

/-- The counter `c` alone has risen, by one up to 65535 (R196). -/
def State.counted (c : Counter) (s t : State) : Prop :=
  ∀ d, t.counter d = if d = c then raisedCount (s.counter d) else s.counter d

/-- The flag `f` alone has been set (R194). -/
def State.flagged (f : Flag) (s t : State) : Prop := ∀ g, t.flag g = (s.flag g || g == f)

/-- `s` is the station `s₀` at the end of the sequence `bits`: what was left of the 12 idle bit times before it, the
bit times themselves and the 12 idle ones that end it have passed (R4, 1.2). -/
def State.atFrameEnd (s₀ : State) (bits : List LineBit) (s : State) : Prop :=
  s = s₀.elapse ((12 - s₀.line.idle) + bits.length + 12)

/-- Bit times that bring a frame past the length check (R3 to R7). That a break after its last byte leaves the frame as it is
is the model's choice (log 45). -/
def Frame.carriedBy (f : Frame) (bits : List LineBit) : Prop :=
  ∃ rest broken, receive bits = (syncByte :: rest, broken) ∧ (byteAt rest 3).toNat ≤ 32 ∧
    rest.length = 6 + (byteAt rest 3).toNat ∧ Frame.ofBytes rest = f

/-- The frame passes the CRC check and the format check (R8, R9). -/
def Frame.passes (f : Frame) : Prop := f.expectedCrc = f.crc ∧ formatOk f = true

/-- The frame is accepted (R8 to R12): it has come through the checks, and its sender is another station of the roster,
with the role a STATE names. -/
def Frame.acceptedBy (f : Frame) (bits : List LineBit) (s : State) : Prop :=
  s.hearing ∧ f.carriedBy bits ∧ f.passes ∧ f.sender.toNat ≠ s.station ∧ s.roleAt f.sender.toNat ≠ .absent ∧
    (f.header = classHeader .state → Role.ofCode (byteAt f.body 4) = some (s.roleAt f.sender.toNat))

/-- Bit time `k` of an attempt is its first mismatch: all before it are read back as sent, and it is read back otherwise, as
CONTENDED or as the opposite (R3). -/
def Attempt.mismatchAt (a : Attempt) (readBack : List LineBit) (k : Nat) : Prop :=
  k < 10 * a.frame.length ∧ (∀ j : Nat, j < k → readBack[j]? = (lineBits a.frame)[j]?) ∧
    readBack[k]? ≠ none ∧ readBack[k]? ≠ (lineBits a.frame)[k]?

/-- The converter has been restarted, with what R92 counts as a door event (R151): it is in ZEROING for the full time of its
mode, and keeps its record, its sequence and its stale marker; in mode none nothing happens. -/
def State.converterRestarted (s t : State) : Prop :=
  (s.conv.mode = none → t.conv = s.conv) ∧
    ∀ m, s.conv.mode = some m →
      t.conv =
        { s.conv with
          phase := .zeroing, timer := some (if m = .load then ms 80 else ms 20), integrator := 0, deint := 0
          polarity := none }

/-- The two ways in which a mark is taken (R22, R30): a MARK heard from a station with a rank and not early, and the own
MARK sent, every bit of it read back as sent; `u` is the state as the mark arrives, `number` the round it opens, and
`heard` the body of a heard MARK. -/
def State.takesMark (c : Instr) (s u : State) (number : Byte) (heard : Option (List Byte)) : Prop :=
  (∃ (bits : List LineBit) (f : Frame), c = .frameReception bits ∧ f.acceptedBy bits s ∧ f.header = classHeader .mark ∧
    (s.entryAt f.sender.toNat).rank ≠ none ∧ s.atFrameEnd bits u ∧
    (u.round.firstMark = true ∨ u.settings.periodTime / 2 ≤ u.round.timer) ∧
    number = f.round ∧ heard = some f.body) ∨
  ∃ (place : Nat) (e : TxEntry) (a : Attempt), c = .transmissionSuccess (lineBits a.frame) ∧
    s.resetHeld = false ∧ s.mode = .joined ∧ s.sendingEntry = some (place, e, a) ∧ e.cls = .mark ∧
    u = s.elapse (10 * a.frame.length - a.elapsed) ∧ number = s.round.number + 1 ∧ heard = none

/-- The attention timer at a mark (R197), from the state `s` after the capture of the MARK's own frame: while captures
wait and no capture cause is latched it counts the mark, and on reaching its setting it stops and CAPTURE_TIMER is
latched; else it stands, and so do the capture causes. The new-capture count stands. -/
def State.attentionCounted (s t : State) : Prop :=
  let u := s.status
  t.status.newCaptures = u.newCaptures ∧ t.status.causes.captureCount = u.causes.captureCount ∧
    (0 < u.newCaptures → u.causes.captureCount = false → u.causes.captureTimer = false →
      ∀ n, u.attnTimer = some n →
        (n + 1 < s.settings.attentionTimer →
          t.status.attnTimer = some (n + 1) ∧ t.status.causes.captureTimer = false) ∧
        (s.settings.attentionTimer ≤ n + 1 → t.status.attnTimer = none ∧ t.status.causes.captureTimer = true)) ∧
    (u.newCaptures = 0 ∨ u.causes.captureCount = true ∨ u.causes.captureTimer = true →
      t.status.attnTimer = u.attnTimer ∧ t.status.causes.captureTimer = u.causes.captureTimer)

/-- What a CABIN STATE of the current round makes of the replica, by the roster's cabin index `i` of its sender (R69,
R70): it updates that record, all fields at once, or sets the flag of its refusal and leaves every record. `fields`
are the role body from its cabin index on. -/
def State.cabinStateJudged (s t : State) (i : Nat) (vote round : Byte) (fields : List Byte) : Prop :=
  let index := (byteAt fields 0).toNat
  let phase := byteAt fields 1
  let marker := byteAt fields 2
  let occupancy := byteAt fields 3
  let load := ofTwoBytes (byteAt fields 4) (byteAt fields 5)
  let fits := phase.toNat ≤ 8 ∧ marker.toNat ≤ 4 ∧ (occupancy.toNat ≤ 63 ∨ occupancy = 0xFF) ∧
    (load ≤ 4000 ∨ load = 0xFFFF)
  (index = i → fits →
    (∃ x, t.record i = x ∧ x.owner = (s.record i).owner ∧ x.phase.code = phase ∧ x.marker.code = marker ∧
      x.occupancy = (if occupancy = 0xFF then none else some occupancy.toNat) ∧
      x.load = (if load = 0xFFFF then none else some load) ∧ x.latched = (byteAt fields 6).getLsbD 0 ∧
      x.dwell = (byteAt fields 6).getLsbD 1 ∧ x.vote = judgeVote .cabin vote ∧ x.lastRound = some round ∧
      x.freshness = 0) ∧
    (∀ j : Nat, j ≠ i → t.record j = s.record j) ∧ t.replica.divergence = s.replica.divergence) ∧
  (index ≠ i → t.replica = s.replica ∧ t.flag .stranger = true) ∧
  (index = i → ¬ fits → t.replica = s.replica ∧ t.flag .format = true)

/-- The isolation has counted one of its two events (R24): below the eighth the count rises and the period timer
starts again; at the eighth the station is LISTENING, marked as returning, its marks-taken count and round timer at 0
and its converter restarted. -/
def State.isolationCounts (s t : State) : Prop :=
  (s.line.isoCount < 7 →
    t.mode = .isolated ∧ t.line.isoCount = s.line.isoCount + 1 ∧ t.line.isoTimer = some s.settings.periodTime ∧
      t.line.returning = s.line.returning ∧ t.conv = s.conv) ∧
  (7 ≤ s.line.isoCount →
    t.mode = .listening ∧ t.line.isoCount = 8 ∧ t.line.isoTimer = none ∧ t.line.returning = true ∧
      t.round.marksTaken = 0 ∧ t.round.timer = 0 ∧
      ∀ m, s.conv.mode = some m → t.conv.phase = .zeroing ∧ t.conv.timer = some (zeroingTime m))

/-- The Platform Sequencer without its gates, and without the mark kept within one step. -/
def Platform.withoutGates (p : Platform) : Platform :=
  { p with exitGate := Gate.reset, entryGate := Gate.reset, phaseFresh := false }

/-- The cabin as the beginning of an opening leaves it (R86); `atEnd` says that OPEN_END is active already. -/
def Cabin.opensFrom (atEnd : Bool) (c : Cabin) : Cabin :=
  { c with
    phase := if atEnd then .opened else .opening
    action := if atEnd then .idle else .openMove
    openLimit := if atEnd then none else some (sec 6)
    load := none, attempts := 0, closeLimit := none, latchLimit := none, recloseDelay := none, weighLimit := none
    awaiting := false }

/-- The cabin as the start of a close movement leaves it (R87, R88, R93): it is the movement `attempt`; `closed` and
`latched` say that CLOSED_END and LATCHED are active already, which lead on to LATCH_WAIT and to WEIGHING. -/
def Cabin.closesFrom (attempt : Nat) (closed latched : Bool) (c : Cabin) : Cabin :=
  { c with
    phase := if closed && latched then .weighing else .closing
    action := if closed then (if latched then .idle else .latchWait) else .closeMove
    attempts := attempt, dwell := false, dwellTimer := none, openLimit := none, recloseDelay := none
    closeLimit := if closed then none else some (sec 6)
    latchLimit := if closed && !latched then some (sec 1) else none
    weighLimit := if closed && latched then some (sec 3) else none
    awaiting := closed && latched }

/-- The cabin in DOOR_FAULT (R91). -/
def Cabin.faultedFrom (c : Cabin) : Cabin :=
  { c with
    phase := .doorFault, action := .idle, openLimit := none, closeLimit := none, latchLimit := none
    recloseDelay := none, weighLimit := none, awaiting := false, dwell := false, dwellTimer := none }

/-! ### What holds of a sound station -/

/-- Items of a list that pass a test number at most one. -/
def atMostOne {α : Type} (test : α → Bool) (items : List α) : Prop := (items.filter test).length ≤ 1

/-- The transmit queue: at most eight frames, one MARK, one STATE, one being sent, and none outside JOINED (R13, R15); the
isolation score below 4 and the count at most 8 (R23, R24). -/
def State.QueueSound (s : State) : Prop :=
  s.line.queue.length ≤ 8 ∧ (s.mode ≠ .joined → s.line.queue = []) ∧
    atMostOne (fun e => e.cls == .mark) s.line.queue ∧ atMostOne (fun e => e.cls == .state) s.line.queue ∧
    atMostOne (fun e : TxEntry => e.attempt.isSome) s.line.queue ∧ s.line.isoScore ≤ 3 ∧ s.line.isoCount ≤ 8 ∧
    s.line.prng ≠ 0

/-- The agreement record: never NONE, nobody holds at CRUISE (R49, R50), and STOP with nothing held outside JOINED
(R51). -/
def State.AgreementSound (s : State) : Prop :=
  s.agreement.level ≠ .noLimit ∧ (s.agreement.level = .cruise → s.agreement.holders = [] ∧ s.agreement.reasons = 0) ∧
    (s.mode ≠ .joined →
      s.agreement.level = .stop ∧ s.agreement.holders = [] ∧ s.agreement.reasons = 0 ∧
        s.agreement.silentReason = false ∧ s.agreement.skew = false)

/-- The drive record: demand STOP in every state but MOVING, the target level in MOVING; the confirm count, the fault
reasons and the timers each belong to their own state (R54 to R63). -/
def State.DriveSound (s : State) : Prop :=
  (s.drive.state ≠ .moving → s.drive.demand = .stop) ∧ (s.drive.state = .moving → s.drive.demand = s.drive.target) ∧
    (s.drive.state ≠ .braked → s.drive.confirm = 0) ∧ (s.drive.state ≠ .faulted → s.drive.reasons = 0) ∧
    (s.drive.state ≠ .releasing → s.drive.releaseTimer = none) ∧
    (s.drive.state ≠ .stopping → s.drive.stopTimer = none) ∧
    (s.drive.state ≠ .faulted → s.drive.faultClearTimer = none)

/-- The door action that a phase allows (chapter 5). -/
def actionFits : Phase → DoorAction → Prop
  | .opening, a => a = .openMove
  | .closing, a => a = .closeMove ∨ a = .latchWait ∨ a = .reverse ∨ a = .recloseWait
  | .away, a | .passing, a | .opened, a | .weighing, a | .ready, a | .overloaded, a | .doorFault, a => a = .idle

/-- The cabin's own record: phase and door action fit, at most three close movements, each timer runs in its own door
action or phase only, a dwell only with the door open (chapter 5, R86 to R99), and start values until a role runs
(R102). -/
def State.CabinSound (s : State) : Prop :=
  actionFits s.cabin.phase s.cabin.action ∧ s.cabin.attempts ≤ 3 ∧
    (s.cabin.action = .recloseWait → s.cabin.attempts ≤ 2) ∧
    (s.cabin.openLimit ≠ none → s.cabin.action = .openMove ∨ s.cabin.action = .reverse) ∧
    (s.cabin.closeLimit ≠ none → s.cabin.action = .closeMove) ∧
    (s.cabin.latchLimit ≠ none → s.cabin.action = .latchWait) ∧
    (s.cabin.recloseDelay ≠ none → s.cabin.action = .recloseWait) ∧
    (s.cabin.weighLimit ≠ none → s.cabin.phase = .weighing) ∧ (s.cabin.awaiting → s.cabin.phase = .weighing) ∧
    (s.cabin.dwell → s.cabin.phase = .opening ∨ s.cabin.phase = .opened) ∧
    (s.cabin.dwellTimer ≠ none → s.cabin.dwell) ∧ (s.mode.receiving = false → s.cabin = Cabin.reset)

/-- How far along the platform a segment is (R104). -/
def Segment.place : Segment → Nat
  | .exit => 0
  | .entry => 1
  | .closing => 2

/-- The zone queue: at most three entries, never the same cabin twice, segments running from CLOSING at the front to
EXIT at the back, counts in their ranges (R104). -/
def State.ZoneSound (s : State) : Prop :=
  s.platform.zone.length ≤ 3 ∧ (s.platform.zone.map ZoneEntry.cabin).Nodup ∧
    s.platform.zone.Pairwise (fun a b => Segment.place b.segment ≤ Segment.place a.segment) ∧
    ∀ e ∈ s.platform.zone, e.alighted ≤ 63 ∧ e.boarded ≤ 63 ∧ e.mismatch ≤ 2

/-- The capture ring: 32 slots, the READER slots being the run from the release place up to the write place (R190). -/
def State.CaptureSound (s : State) : Prop :=
  s.capture.slots.length = 32 ∧ s.capture.writePlace < 32 ∧ s.capture.releasePlace < 32 ∧
    ∃ n : Fin 33, s.capture.writePlace = (s.capture.releasePlace + n.val) % 32 ∧
      ∀ k : Fin 32,
        (s.capture.slots[(s.capture.releasePlace + k.val) % 32]?).map Slot.reader = some (decide (k.val < n.val))

/-- The Ask Table: four entries, no two in use with the same tag, tags 0..15, marks 0..2 (R157, R160). -/
def State.AsksSound (s : State) : Prop :=
  s.asks.entries.length = 4 ∧ s.asks.tagCounter < 16 ∧
    (∀ e ∈ s.asks.entries, e.tag < 16 ∧ e.marks ≤ 2 ∧ (e.state = .waiting → e.marks ≤ 1)) ∧
    s.asks.entries.Pairwise (fun a b => a.inUse = true → b.inUse = true → a.tag ≠ b.tag)

/-- The counters hold 0..65535, the new-capture count 0..255 (R196, R197), and a COUNTERS read in progress shows 14 of
them. -/
def State.CountersSound (s : State) : Prop :=
  s.status.counters.length = 14 ∧ (∀ n ∈ s.status.counters, n ≤ 65535) ∧ s.status.newCaptures ≤ 255 ∧
    ∀ shown, s.tap.pendingEnd = .counters shown → shown.length = 14

/-- The Wind Monitor: rings within their sizes, samples within the full scale, the gust the mean of the ring and the
sustained value that of the slices (R129 to R132). -/
def State.WindSound (s : State) : Prop :=
  s.wind.ring.length ≤ 12 ∧ s.wind.slices.length ≤ 40 ∧ s.wind.accCount < 60 ∧ s.wind.miss ≤ 3 ∧ s.wind.good < 12 ∧
    (∀ n ∈ s.wind.ring, n ≤ 500) ∧ (∀ n ∈ s.wind.slices, n ≤ 500) ∧ s.wind.accSum ≤ 500 * s.wind.accCount ∧
    (∀ n, s.wind.last = some n → n ≤ 500) ∧
    (∀ r, s.wind.pending = some r → r.overrange = true ∨ r.count < 2000) ∧ s.wind.gust = meanOf s.wind.ring ∧
    s.wind.sustained = if s.wind.slices.isEmpty then s.wind.gust else meanOf s.wind.slices

/-- What follows the rest of the state: the working side of the own STATE is what the role sequencer says (R37), a
PLATFORM's gates stand as R114 commands them, and the marks kept within one step are clear. Until an image is taken
the roster is empty. -/
def State.FollowersSound (s : State) : Prop :=
  s.round.working = s.ownStatement ∧
    (s.role = .platform →
      s.platform.exitGate.commandOpen = s.exitGateWanted ∧ s.platform.entryGate.commandOpen = s.entryGateWanted) ∧
    s.status.fresh = 0 ∧ s.platform.phaseFresh = false ∧
    (s.resetHeld = true → s.mode = .loading) ∧ (s.mode.receiving = false → ∀ e ∈ s.roster, e.role = .absent)

/-- Until an image is taken no block has run (R175, R181): in LOADING and CONFIG_FAULT every block stands at its start
values, and the tap port's answer has nothing to clear. -/
def State.StartSound (s : State) : Prop :=
  s.mode.receiving = false →
    s.settings = Settings.default ∧ s.roster = List.replicate 64 RosterEntry.absent ∧
      s.line = { Line.reset with prng := s.line.prng, idle := s.line.idle } ∧ s.round = Round.reset ∧
      s.agreement = Agreement.reset ∧ s.drive = Drive.reset ∧ s.replica = Replica.reset ∧ s.cabin = Cabin.reset ∧
      s.platform = Platform.reset ∧ s.wind = Wind.reset ∧ s.conv = Converter.reset ∧ s.asks = AskTable.reset ∧
      s.console = ⟨false, false⟩ ∧ s.capture = CaptureStore.reset ∧ s.status = Status.reset ∧
      s.tap.pendingEnd = .nothing

/-- The loader phase is FAULT just while the station is in CONFIG_FAULT (R181), so a read of the start record tells a panel
computer that it is. -/
def State.LoaderSound (s : State) : Prop := s.loader.phase = .fault ↔ s.mode = .configFault

/-- The converter: idle just when its mode is none, a polarity while it de-integrates, and a record whose count is the
full scale for an overrange and below it otherwise (R144, R145, R155). -/
def State.ConverterSound (s : State) : Prop :=
  (s.conv.mode = none ↔ s.conv.phase = .idle) ∧ (s.conv.phase = .deintegrating → s.conv.polarity ≠ none) ∧
    (∀ r, s.conv.record = some r →
      (r.overrange = true → r.count = fullScale r.mode) ∧ (r.overrange = false → r.count < fullScale r.mode)) ∧
    (s.mode.receiving = false → s.conv = Converter.reset)

/-- The settings lie in the ranges of R180. -/
def State.SettingsSound (s : State) : Prop :=
  let g := s.settings
  (g.period = 200 ∨ g.period = 250 ∨ g.period = 400 ∨ g.period = 500) ∧ (g.attemptLimit = 10 ∨ g.attemptLimit = 20) ∧
    (2 ≤ g.silenceLimit ∧ g.silenceLimit ≤ 6) ∧ (1 ≤ g.releaseConfirm ∧ g.releaseConfirm ≤ 4) ∧
    (10 ≤ g.stopTimeout ∧ g.stopTimeout ≤ 60) ∧ (1 ≤ g.capacity ∧ g.capacity ≤ 32) ∧
    (100 ≤ g.loadLimit ∧ g.loadLimit ≤ 4000) ∧ (1 ≤ g.watchGust ∧ g.watchGust ≤ 500) ∧
    g.watchHysteresis ≤ g.watchGust ∧ (15 ≤ g.watchCalmTime ∧ g.watchCalmTime ≤ 600) ∧
    (g.watchGust ≤ g.holdGust ∧ g.holdGust ≤ 500) ∧ (1 ≤ g.holdSustained ∧ g.holdSustained ≤ 500) ∧
    (1 ≤ g.releaseGust ∧ g.releaseGust ≤ g.holdGust) ∧
    (1 ≤ g.releaseSustained ∧ g.releaseSustained ≤ g.holdSustained) ∧
    (60 ≤ g.releaseTime ∧ g.releaseTime ≤ 1800) ∧ (g.holdGust ≤ g.creepCeiling ∧ g.creepCeiling ≤ 500) ∧
    (60 ≤ g.clearWait ∧ g.clearWait ≤ 3600) ∧ g.congestion ≤ 16 ∧
    (1 ≤ g.attentionCount ∧ g.attentionCount ≤ 32) ∧ (1 ≤ g.attentionTimer ∧ g.attentionTimer ≤ 255)

/-- The tables keep their sizes: 24 field inputs, 64 stations in the roster and on each side of the heard table, 48 cabin
records. -/
def State.TablesSound (s : State) : Prop :=
  s.filter.length = 24 ∧ s.roster.length = 64 ∧ s.round.current.slots.length = 64 ∧ s.round.frozen.slots.length = 64 ∧
    s.replica.records.length = 48

/-! ### What leaving JOINED and giving up an ASK do -/

/-- The fallback ask in ask entry `m` has failed (R121): the first zone entry whose PENDING fallback it is has its
fallback USED, and PHASE stands. -/
def State.fallbackFailed (m : Nat) (s t : State) : Prop :=
  ∀ (front back : List ZoneEntry) (z : ZoneEntry) (kind : AskKind), s.platform.zone = front ++ z :: back →
    (∀ x ∈ front, ∀ k, x.fallback ≠ .pending k m) → z.fallback = .pending kind m →
    t.platform.zone[front.length]? = some { z with fallback := .used } ∧ t.platform.phaseFault = true

/-- The ASK frame with this body is given up, and the queue is `rest` without it (R158, R161): the QUEUED entry it
belongs to is FAILED; for the fallback of a zone entry a PHASE fault is raised, with its ZONE_FAULT notice (R121, R122),
and for another ask nothing else happens. -/
def State.askGivenUp (body : List Byte) (rest : List TxEntry) (s t : State) : Prop :=
  ∀ (m : Nat) (a : AskEntry), s.askOfBody body = some m → s.asks.entries[m]? = some a →
    t.asks = { s.asks with entries := s.asks.entries.set m { a with state := .failed } } ∧
      (a.origin ≠ .fallback → t.line.queue = rest ∧ State.same .platform s t) ∧
      (a.origin = .fallback →
        s.fallbackFailed m t ∧
        ∀ z kind, (s.platform.zone.find? (ZoneEntry.awaits m)) = some z → z.fallback = .pending kind m →
          t.line.queue =
            rest ++
              [TxEntry.fresh .essential
                (noticeBody .zoneFault (some z.cabin) ZoneFaultKind.phase.code.toNat kind.code.toNat) none])

/-- The transmit queue of `s` is emptied as the station leaves JOINED (R15, R158): a QUEUED ask whose frame was in it is
FAILED, with the end of a fallback ask (R121), and the Ask Table is otherwise as before. -/
def State.asksDropped (s t : State) : Prop :=
  let dropped := fun a : AskEntry =>
    a.state == .queued && s.line.queue.any fun x => x.cls == .ask && (byteAt x.body 2).toNat == a.tag
  s.AsksSound →
    t.asks =
        { s.asks with
          entries := s.asks.entries.map fun a => if dropped a then { a with state := .failed } else a } ∧
      ∀ (m : Nat) (a : AskEntry), s.asks.entries[m]? = some a → dropped a = true → a.origin = .fallback →
        s.fallbackFailed m t

/-- What a drive does as its station leaves JOINED (R60): BRAKED forgets the marks that confirmed the release, RELEASING
goes back to BRAKED, MOVING stops, and is braked at once where the rim is at rest already (R58, R59). -/
def State.driveLeft (s t : State) : Prop :=
  let check := if s.brakeReleased then some (sec 2) else none
  (s.role ≠ .drive → t.drive = s.drive) ∧
    (s.role = .drive → s.DriveSound →
      (s.drive.state = .braked → t.drive = { s.drive with confirm := 0 }) ∧
      (s.drive.state = .releasing →
        t.drive = { s.drive with state := .braked, releaseTimer := none, brakeCheckTimer := check }) ∧
      (s.drive.state = .moving → s.stationary = false →
        t.drive =
          { s.drive with state := .stopping, demand := .stop, stopTimer := some (sec s.settings.stopTimeout) }) ∧
      (s.drive.state = .moving → s.stationary = true →
        t.drive = { s.drive with state := .braked, demand := .stop, brakeCheckTimer := check }) ∧
      (s.drive.state = .stopping ∨ s.drive.state = .faulted → t.drive = s.drive))

end Sys2Proof.Machine
end

