-- ==== Sys2Proof/Certificates/Slice0/Obligations.lean ====
section
/-! DEFINITION. The statements for the provers, chapter by chapter of the spec. In every frame, the gate commands and the
working side of the own STATE are left out (`followers`), since they follow whatever has changed (R37, R114), as
`GatesAndOwnStateFollow` says. Where a frame is heard, `s₀` is the station as the frame begins and `s` the station at
its end: that FRAME_RECEPTION lets the frame's time pass is the model's choice (log 22). -/

open Sys2Proof Sys2Proof.Machine

/-! ### The machine -/

/-- A command at the front of the queue acts on the queue's rest. -/
def Obligations.StepRunsTheFrontCommand : Prop :=
  ∀ (c : Instr) (rest : List Instr) (s : State),
    step { s with pending := c :: rest } = exec c { s with pending := rest }

/-- A step on an empty queue lets one microsecond pass on every clock (the model's choice, log 2): each running timer
and input filter has so much less to run, the round timer so much more behind it, and nothing else changes. In reset
nothing happens. -/
def Obligations.IdleStepLetsAMicrosecondPass : Prop :=
  ∀ s : State, s.pending = [] →
    (s.resetHeld = true → step s = .next s) ∧
    (s.running → ∃ t, step s = .next t ∧
      t.filter = s.filter.map (· - 1) ∧
      t.loader = { s.loader with retryWait := s.loader.retryWait.map (· - 1) } ∧
      t.line =
        { s.line with
          queue := s.line.queue.map fun e =>
            { e with
              backoff := e.backoff.map (· - 1), stagger := e.stagger.map (· - 1)
              attempt := e.attempt.map fun a => { a with elapsed := a.elapsed + 1 } }
          isoTimer := s.line.isoTimer.map (· - 1)
          idle := if s.line.sending then s.line.idle else min 16 (s.line.idle + 1) } ∧
      t.round = { s.round with timer := t.round.timer } ∧
      (s.round.timer < 2 * s.settings.periodTime → t.round.timer = s.round.timer + 1) ∧
      t.drive =
        { s.drive with
          releaseTimer := s.drive.releaseTimer.map (· - 1), stopTimer := s.drive.stopTimer.map (· - 1)
          faultClearTimer := s.drive.faultClearTimer.map (· - 1)
          brakeCheckTimer := s.drive.brakeCheckTimer.map (· - 1) } ∧
      t.cabin =
        { s.cabin with
          openLimit := s.cabin.openLimit.map (· - 1), closeLimit := s.cabin.closeLimit.map (· - 1)
          latchLimit := s.cabin.latchLimit.map (· - 1), recloseDelay := s.cabin.recloseDelay.map (· - 1)
          weighLimit := s.cabin.weighLimit.map (· - 1), dwellTimer := s.cabin.dwellTimer.map (· - 1) } ∧
      t.wind = { s.wind with tick := s.wind.tick.map (· - 1) } ∧
      t.platform.exitGate = { s.platform.exitGate with timer := s.platform.exitGate.timer.map (· - 1) } ∧
      t.platform.entryGate = { s.platform.entryGate with timer := s.platform.entryGate.timer.map (· - 1) } ∧
      t.conv =
        { s.conv with
          timer := s.conv.timer.map (· - 1)
          deint := if s.conv.phase = .deintegrating then s.conv.deint + 1 else s.conv.deint } ∧
      State.sameBut [.filter, .loader, .queue, .idle, .line, .round, .drive, .cabin, .gates, .wind, .conv] s t)

/-- No command stops the part (1.2, chapter 95; log 1). Only START_RESET leaves CONFIG_FAULT and LOCKED_OUT (1.5, R10,
R175), and outside JOINED no station begins to send (R18). In LOADING and CONFIG_FAULT no block acts (1.2, R2, R175,
R181): an input only has its level taken, the tap port answers, and no frame, key, marker or expiry changes anything,
until an image is taken or the part is reset. An input that changes again before its last change has been steady for 5
ms has not changed (R2); for a key, a marker or a beam that is 10 ms, since it must have been inactive and active again
(log 5). -/
def Obligations.CommandsActWhereTheModeAllows : Prop :=
  (∀ (c : Instr) (s : State), ∃ t, exec c s = .next t) ∧
  (∀ (c : Instr) (s t : State), exec c s = .next t → s.resetHeld = false → c ≠ .startReset →
    (s.mode = .configFault → t.mode = .configFault) ∧ (s.mode = .lockedOut → t.mode = .lockedOut) ∧
    (s.mode ≠ .joined → s.line.queue = [] → t.line.sending = false)) ∧
  (∀ (s : State) (c : Instr), s.resetHeld = false → s.mode.receiving = false → s.StartSound →
    (∀ r, c ≠ .configReadTryEnd r) → (∀ n, c ≠ .configRetryWaitExpiry n) → c ≠ .startReset →
    ∃ t, exec c s = .next t ∧ State.sameBut [.fi, .filter, .tap, .renewal] s t) ∧
  (∀ (s : State) (c : Instr) (n left : Nat), s.resetHeld = false → inputLine c = some n →
    s.filter[n]? = some left → 0 < left → exec c s = .next s)

/-! ### The wheel line (chapter 1) -/

/-- A frame sent is a frame received (R3, R4): the bit times of its bytes are received as those bytes, they pass the
length check and carry the header, the body and the CRC that were sent, and the CRC is the one R8 computes. A CONTENDED
bit, or a stop bit read as 0, is a break: the byte in which it occurs is not received, and the bytes before it are (R3).
A released line reads 1, a bit time that stations drive to one level reads that level, and one that they drive to both
reads CONTENDED (R3). Twelve released bit times end the frame (R4). That twelve released bits between two bytes end the
frame is the model's receiver (log 31). -/
def Obligations.FrameIsReceivedAsSent : Prop :=
  (∀ (header sender round : Byte) (body : List Byte), body.length ≤ 32 →
    let f : Frame := ⟨header, sender, round, body, crc16 (frameContent header sender round body)⟩
    receive (lineBits (frameBytes header sender round body)) = (frameBytes header sender round body, false) ∧
      f.carriedBy (lineBits (frameBytes header sender round body)) ∧ f.expectedCrc = f.crc) ∧
  (∀ (bytes : List Byte) (bits : List Bool) (rest : List LineBit), bits.length ≤ 8 →
    receive (lineBits bytes ++ [.zero] ++ bits.map drivenBit ++ [.contended] ++ rest) = (bytes, true) ∧
    (bits.length = 8 → receive (lineBits bytes ++ [.zero] ++ bits.map drivenBit ++ [.zero] ++ rest) = (bytes, true)) ∧
    receive (lineBits bytes ++ List.replicate 12 .one ++ rest) = (bytes, false)) ∧
  lineReading [] = .one ∧
  ∀ (b : Bool) (others : List Bool),
    ((∀ o ∈ others, o = b) → lineReading (drivenBit b :: others.map drivenBit) = drivenBit b) ∧
    ((∃ o ∈ others, o ≠ b) → lineReading (drivenBit b :: others.map drivenBit) = .contended)

/-- The five kinds of frame (R5): the format check accepts exactly the kinds, classes and body lengths of the table, with
the header codes of section 12.1. On the line a frame has 7 bytes beside its body, of 10 bit times each, and a legal
one at most 26 bytes. A STATE body holds vote, reasons set and congested flag, and then the role body, of which the
role code comes first; a PLATFORM's zone entry count follows it, and gives the length. -/
def Obligations.FormatCheckIsTheTableOfLegalFrames : Prop :=
  (∀ f : Frame, formatOk f = true ↔
    (f.header = 0x11 ∨ f.header = 0x52) ∧ f.body.length = 4 ∨
    f.header = 0x44 ∧ f.body.length = 5 ∨
    (f.header = 0x35 ∨ f.header = 0x36) ∧ f.body.length = 6 ∨
    f.header = 0x23 ∧
      (byteAt f.body 4 = Role.console.code ∧ f.body.length = 6 ∨
        byteAt f.body 4 = Role.drive.code ∧ f.body.length = 9 ∨
        byteAt f.body 4 = Role.mast.code ∧ f.body.length = 11 ∨
        byteAt f.body 4 = Role.cabin.code ∧ f.body.length = 12 ∨
        byteAt f.body 4 = Role.platform.code ∧ (byteAt f.body 5).toNat ≤ 3 ∧
          f.body.length = 10 + 3 * (byteAt f.body 5).toNat)) ∧
  (∀ (header sender round : Byte) (body : List Byte),
    let sent := frameBytes header sender round body
    sent.length = 7 + body.length ∧ (lineBits sent).length = 10 * sent.length ∧
      (formatOk ⟨header, sender, round, body, crc16 (frameContent header sender round body)⟩ = true →
        sent.length ≤ 26)) ∧
  (∀ (b : Statement) (congested : Bool),
    b.bytes congested =
      [b.vote] ++ wordBytes b.reasons ++ [if congested then 1 else 0] ++ b.role.code :: b.fields) ∧
  (∀ s : State, s.role = .platform → s.platform.zone.length ≤ 3 →
    let body := s.ownStatement.bytes s.capture.congested
    (byteAt body 5).toNat = s.platform.zone.length ∧ body.length = 10 + 3 * s.platform.zone.length)

/-- Line noise and collision fragments are discarded without counting (R6): nothing but the idle time of the line
changes, which stands at 12 bit times at a frame's end (R4). The length check, the CRC check and the format check in
their order: the first that fails counts its counter and sets its flag, and the frame is used for nothing more (R7, R8,
R9). That the reception lets the frame's time pass is the model's choice (log 22). That the bytes before a break are
judged by these checks, also where all the declared bytes have come or the declared length is above 32, is the model's
choice (log 45). -/
def Obligations.FailedChecksDiscardTheFrame : Prop :=
  (∀ (s₀ s : State) (bits : List LineBit) (bytes : List Byte) (broken : Bool),
    s₀.atFrameEnd bits s → s.hearing → receive bits = (bytes, broken) →
    (bytes = [] ∨ byteAt bytes 0 ≠ syncByte ∨ (broken = true ∧ bytes.length < 3)) →
    ∃ t, exec (.frameReception bits) s₀ = .next t ∧ t.line.idle = 12 ∧ State.sameBut (.idle :: followers) s t) ∧
  (∀ (s₀ s : State) (bits : List LineBit) (rest : List Byte) (broken : Bool) (c : Counter) (f : Flag),
    s₀.atFrameEnd bits s → s.hearing → s.CountersSound →
    receive bits = (syncByte :: rest, broken) → ¬ (broken = true ∧ rest.length < 2) →
    let declared := (byteAt rest 3).toNat
    let frame := Frame.ofBytes rest
    (rest.length < 6 ∧ c = .runt ∧ f = .runtLong ∨
      6 ≤ rest.length ∧ 32 < declared ∧ c = .long ∧ f = .runtLong ∨
      6 ≤ rest.length ∧ declared ≤ 32 ∧ rest.length < 6 + declared ∧ c = .runt ∧ f = .runtLong ∨
      declared ≤ 32 ∧ 6 + declared < rest.length ∧ c = .long ∧ f = .runtLong ∨
      declared ≤ 32 ∧ rest.length = 6 + declared ∧ frame.expectedCrc ≠ frame.crc ∧ c = .crcErr ∧ f = .crc ∨
      declared ≤ 32 ∧ rest.length = 6 + declared ∧ frame.expectedCrc = frame.crc ∧ formatOk frame = false ∧
        c = .formatErr ∧ f = .format) →
    ∃ t, exec (.frameReception bits) s₀ = .next t ∧ t.line.idle = 12 ∧ State.counted c s t ∧ State.flagged f s t ∧
      State.sameBut (.idle :: statusParts ++ followers) s t)

/-- A frame that has passed the checks and carries the own number locks the station out (R10): from JOINED and ISOLATED
and LISTENING, with an empty queue; in LOCKED_OUT it is counted and offered to capture and changes nothing else. Leaving
JOINED, each frame removed from the queue counts in TX_DROPS (R15), each ASK among them is FAILED (R158), with the end
of a fallback ask (R121), and a drive brakes or stops (R60). A stranger sets STRANGER, is counted in FRAMES_OK, and is
delivered to no block (R11). A sender above 63 counts as ABSENT by the model's choice (log 13), and that the frame's
time passes in its reception is one too (log 22). That a break after a frame's last byte leaves the frame as it is, is
the model's choice (log 45). -/
def Obligations.OwnNumberLocksOutAndStrangersStayOut : Prop :=
  (∀ (s₀ s : State) (bits : List LineBit) (f : Frame),
    s₀.atFrameEnd bits s → s.hearing → s.CountersSound → f.carriedBy bits → f.passes → f.sender.toNat = s.station →
    ∃ t, exec (.frameReception bits) s₀ = .next t ∧ t.mode = .lockedOut ∧
      t.counter .framesOk = raisedCount (s.counter .framesOk) ∧
      (s.mode = .joined →
        t.line.queue = [] ∧ t.agreement.level = .stop ∧ t.agreement.holders = [] ∧
          t.counter .txDrops = min 65535 (s.counter .txDrops + s.line.queue.length) ∧ s.asksDropped t ∧
          s.driveLeft t) ∧
      (s.mode = .isolated → t.line.isoTimer = none ∧ t.line.isoCount = s.line.isoCount) ∧
      (s.mode = .lockedOut → State.sameBut (.idle :: .capture :: statusParts ++ followers) s t) ∧
      (s.mode ≠ .joined → State.sameBut (.mode :: .idle :: .line :: .capture :: statusParts ++ followers) s t) ∧
      (s.mode = .joined →
        State.sameBut
          (.mode :: .idle :: .round :: .agreement :: .drive :: .asks :: .platform :: .capture :: queueParts ++
            followers) s t)) ∧
  (∀ (s₀ s : State) (bits : List LineBit) (f : Frame),
    s₀.atFrameEnd bits s → s.hearing → s.CountersSound → f.carriedBy bits → f.passes → f.sender.toNat ≠ s.station →
    (s.roleAt f.sender.toNat = .absent ∨
      f.header = classHeader .state ∧ Role.ofCode (byteAt f.body 4) ≠ some (s.roleAt f.sender.toNat)) →
    ∃ t, exec (.frameReception bits) s₀ = .next t ∧ t.flag .stranger = true ∧
      t.counter .framesOk = raisedCount (s.counter .framesOk) ∧
      (∀ d : Counter, d ≠ .framesOk → d ≠ .captureDrops → t.counter d = s.counter d) ∧
      State.sameBut (.idle :: .capture :: statusParts ++ followers) s t)

/-- The fate of an offered frame (R13 to R16): outside JOINED it is discarded without counting; while a peer is
congested an INFO NOTICE is dropped; a MARK or STATE replaces the queued one, fresh and in its place; else a free
place takes it; in a full queue an INFO NOTICE is dropped, any other takes the place of the oldest INFO NOTICE not
being sent, and with none the frame is discarded and TXQ_OVERFLOW is set. A MARK or STATE that is being sent is not cut
off: its replacement waits for the end of its attempt (R13), in a mark of the model's (log 17). That a frame which
displaces an INFO NOTICE goes last in the order of arrival is the model's choice (log 33), as is that an INFO NOTICE
offered outside JOINED is not counted while a peer is congested either (log 46). -/
def Obligations.OfferedFrameMeetsItsFate : Prop :=
  ∀ (s : State) (cls : FrameClass) (body : List Byte) (stagger : Option Nat) (o : Offered) (t : State),
    s.CountersSound → s.queueOffer cls body stagger = (o, t) →
    (s.mode ≠ .joined → o = .discarded ∧ t = s) ∧
    (s.mode = .joined →
      (cls = .info → s.line.peersCongested = true →
        o = .discarded ∧ State.counted .txDrops s t ∧ State.sameBut [.counters, .attention, .renewal] s t) ∧
      (∀ (before after : List TxEntry) (e : TxEntry), (cls = .mark ∨ cls = .state) →
        s.line.queue = before ++ e :: after → e.cls = cls → (∀ x ∈ before ++ after, x.cls ≠ cls) → e.attempt = none →
        o = .taken ∧ t.line.queue = before ++ TxEntry.fresh cls body stagger :: after ∧ State.sameBut [.queue] s t) ∧
      (∀ (before after : List TxEntry) (e : TxEntry) (a : Attempt), (cls = .mark ∨ cls = .state) →
        s.line.queue = before ++ e :: after → e.cls = cls → (∀ x ∈ before ++ after, x.cls ≠ cls) →
        e.attempt = some a →
        o = .taken ∧
          t.line.queue = before ++ { e with attempt := some { a with after := .replace body stagger } } :: after ∧
          State.sameBut [.queue] s t) ∧
      ((∀ x ∈ s.line.queue, x.cls ≠ cls) ∨ (cls ≠ .mark ∧ cls ≠ .state) →
        ¬ (cls = .info ∧ s.line.peersCongested = true) →
        (s.line.queue.length < 8 → o = .taken ∧ t.line.queue = s.line.queue ++ [TxEntry.fresh cls body stagger] ∧
          State.sameBut [.queue] s t) ∧
        (8 ≤ s.line.queue.length →
          (cls = .info →
            o = .discarded ∧ State.counted .txDrops s t ∧ State.sameBut [.counters, .attention, .renewal] s t) ∧
          (∀ (before after : List TxEntry) (e : TxEntry), cls ≠ .info → s.line.queue = before ++ e :: after →
            e.cls = .info → e.attempt = none → (∀ x ∈ before, ¬ (x.cls = .info ∧ x.attempt = none)) →
            o = .displaced ∧ t.line.queue = before ++ after ++ [TxEntry.fresh cls body stagger] ∧
              State.counted .txDrops s t ∧ State.sameBut [.queue, .counters, .attention, .renewal] s t) ∧
          (cls ≠ .info → (∀ x ∈ s.line.queue, ¬ (x.cls = .info ∧ x.attempt = none)) →
            o = .discarded ∧ State.flagged .txqOverflow s t ∧ State.sameBut [.flags, .attention, .renewal] s t))))

/-- An attempt starts (R18): after the idle gap of 16 bit times, in JOINED, with the first arrived of the highest
class among the eligible entries; its frame carries the current round number, a MARK the next one, and the CRC is
computed afresh. The station then drives the line, first to the 0 of the start bit, bit time after bit time to the last
of its frame, and leaves it released otherwise (R3); in a mode other than JOINED it never drives it (R15, R18), in a
state whose queue is sound (`QueueSound`, which every step keeps). A bit that another station drives to the opposite
level reads back CONTENDED (R3). The end of a back-off (R19) and of the stagger of the own STATE (R38): the entry waits no more, and
nothing else has changed but the time that passed. That a command with a time of its own first lets that time pass is
the model's choice (log 2). -/
def Obligations.AttemptTakesTheHighestClassFirstArrived : Prop :=
  (∀ (s : State) (before after : List TxEntry) (e : TxEntry),
    let u := s.elapse (16 - s.line.idle)
    s.resetHeld = false → s.mode = .joined → s.line.sending = false → u.line.queue = before ++ e :: after →
    e.eligible = true → (∀ x ∈ before, x.eligible = true → e.cls.toNat < x.cls.toNat) →
    (∀ x ∈ after, x.eligible = true → e.cls.toNat ≤ x.cls.toNat) →
    ∃ t, exec .transmitAttemptStart s = .next t ∧
      (let frame :=
        if e.cls = .mark then
          frameBytes (classHeader .mark) (BitVec.ofNat 8 s.station) (s.round.number + 1)
            (markBody s.occupiedCount s.digest s.agreement.level)
        else frameBytes (classHeader e.cls) (BitVec.ofNat 8 s.station) s.round.number e.body
       t.line.queue = before ++ { e with backoff := none, attempt := some ⟨frame, 0, .keep⟩ } :: after) ∧
      t.driven = some .zero ∧ State.sameBut (.queue :: followers) u t) ∧
  (∀ s : State,
    (s.line.sending = false → s.driven = none ∧ s.readBack [] = .one) ∧
    (s.QueueSound → s.mode ≠ .joined → s.driven = none) ∧
    ∀ (place : Nat) (e : TxEntry) (a : Attempt), s.sendingEntry = some (place, e, a) →
      (a.elapsed < 10 * a.frame.length →
        ∃ b : Bool, (lineBits a.frame)[a.elapsed]? = some (drivenBit b) ∧ s.driven = some (drivenBit b) ∧
          s.readBack [] = drivenBit b ∧ s.readBack [drivenBit (!b)] = .contended) ∧
      (10 * a.frame.length ≤ a.elapsed → s.driven = none ∧ s.readBack [] = .one)) ∧
  (∀ (s : State) (place : Fin 8) (n : Nat), s.resetHeld = false →
    (s.backoffLeft place.val = some n →
      ∃ t, exec (.backoffExpiry place) s = .next t ∧
        (∀ e, (s.elapse n).line.queue[place.val]? = some e → t.line.queue[place.val]? = some { e with backoff := none }) ∧
        (∀ j : Nat, j ≠ place.val → t.line.queue[j]? = (s.elapse n).line.queue[j]?) ∧
        State.sameBut (.queue :: followers) (s.elapse n) t) ∧
    (s.staggerLeft = some n →
      ∃ t, exec .stateStaggerExpiry s = .next t ∧
        (∀ (j : Nat) e, (s.elapse n).line.queue[j]? = some e →
          t.line.queue[j]? = some (if e.cls = .state then { e with stagger := none } else e)) ∧
        State.sameBut (.queue :: followers) (s.elapse n) t))

/-- A collision below the attempt limit (R19), found at the first bit of the first three bytes that is read back otherwise
than it was sent (R3): it is counted, the station stops driving, the pseudo-random sequence
moves one step, and the entry stays in its place with one attempt more and a back-off of k slots of 32 µs, k being the
min(n, 5) low bits of the new value. A replacement or removal that met the entry while it was being sent applies in
place of the back-off or the discard (R13, R44): the new frame stands in its place, fresh, or the entry leaves the
queue, counted in STATE_LATE (log 17). Bits that show no mismatch there are no collision, and change nothing (log 1). Two
stations with different numbers that start together find their mismatch within the sender byte at the latest, both in
the same bit time (R19). That a command with a time of its own first lets that time pass is the model's choice (log
2). -/
def Obligations.CollisionDrawsABackoff : Prop :=
  (∀ (s : State) (bit : Fin 30) (readBack : List LineBit) (place : Nat) (e : TxEntry) (a : Attempt),
    let u := s.elapse (bit.val + 1 - a.elapsed)
    s.resetHeld = false → s.CountersSound → s.sendingEntry = some (place, e, a) → a.mismatchAt readBack bit.val →
    a.after = .keep →
    e.attempts + 1 < s.settings.attemptLimit →
    ∃ t, exec (.collision readBack) s = .next t ∧ State.counted .collisions s t ∧
      (∀ i : Fin 15, t.line.prng.getLsbD i.val = s.line.prng.getLsbD (i.val + 1)) ∧
      t.line.prng.getLsbD 15 =
        (s.line.prng.getLsbD 0 ^^ s.line.prng.getLsbD 2 ^^ s.line.prng.getLsbD 3 ^^ s.line.prng.getLsbD 5) ∧
      (let k := t.line.prng.toNat % 2 ^ min (e.attempts + 1) 5
       (t.line.queue[place]?).map (fun x => (x.cls, x.body, x.attempts, x.backoff, x.attempt)) =
         some (e.cls, e.body, e.attempts + 1, (if k = 0 then none else some (k * 32)), none)) ∧
      t.line.queue.length = s.line.queue.length ∧
      (∀ j : Nat, j ≠ place → t.line.queue[j]? = u.line.queue[j]?) ∧
      t.line = { u.line with queue := t.line.queue, idle := 0, prng := t.line.prng } ∧
      State.sameBut ([.queue, .idle, .line, .counters, .attention, .renewal] ++ followers) u t) ∧
  (∀ (s : State) (bit : Fin 30) (readBack : List LineBit) (place : Nat) (e : TxEntry) (a : Attempt),
    let u := s.elapse (bit.val + 1 - a.elapsed)
    s.resetHeld = false → s.CountersSound → s.sendingEntry = some (place, e, a) → a.mismatchAt readBack bit.val →
    (∀ (body : List Byte) (stagger : Option Nat), a.after = .replace body stagger →
      ∃ t, exec (.collision readBack) s = .next t ∧ State.counted .collisions s t ∧
        t.line = { u.line with queue := u.line.queue.set place (TxEntry.fresh e.cls body stagger), idle := 0 } ∧
        State.sameBut ([.queue, .idle, .counters, .attention, .renewal] ++ followers) u t) ∧
    (a.after = .remove → s.line.markWaiting = false →
      ∃ t, exec (.collision readBack) s = .next t ∧
        (∀ d : Counter, t.counter d =
          if d = .collisions ∨ d = .stateLate then raisedCount (s.counter d) else s.counter d) ∧
        t.line = { u.line with queue := u.line.queue.eraseIdx place, idle := 0 } ∧
        State.sameBut ([.queue, .idle, .counters, .attention, .renewal] ++ followers) u t)) ∧
  (∀ (s : State) (readBack : List LineBit) (place : Nat) (e : TxEntry) (a : Attempt),
    s.sendingEntry = some (place, e, a) → (∀ k : Nat, k < 30 → ¬ a.mismatchAt readBack k) →
    exec (.collision readBack) s = .next s) ∧
  (∀ (header₁ header₂ sender₁ sender₂ : Byte) (rest₁ rest₂ : List Byte), sender₁ ≠ sender₂ →
    let frame₁ := syncByte :: header₁ :: sender₁ :: rest₁
    let frame₂ := syncByte :: header₂ :: sender₂ :: rest₂
    let line := List.zipWith (fun x y => lineReading [x, y]) (lineBits frame₁) (lineBits frame₂)
    ∃ k : Nat, k < 30 ∧
      ∀ a : Attempt, a.frame = frame₁ ∨ a.frame = frame₂ → a.mismatchAt line k)

/-- A frame given up: a collision at the attempt limit (R20), and a late collision (R21), found at the first bit past the
sender byte that is read back otherwise than it was sent (R3), each with its counter, its
flag and one more on the isolation score. The entry leaves the queue, an ASK is FAILED (R158), which raises a PHASE
fault where it was a zone entry's fallback (R121), and a MARK is offered afresh (R28), as a MARK that waits for a
place is as soon as the entry leaves, ahead of any notice (R28, log 18). A late collision of an entry that a
replacement or removal has met counts all the same, and the replacement or removal applies (R13, log 17).
EXCESS_ATTEMPTS_DISCARD on its own (R20): an entry that stands at the attempt limit in the queue is given up. That a
command with a time of its own first lets that time pass is the model's choice (log 2). -/
def Obligations.FailedFrameLeavesTheQueue : Prop :=
  (∀ (s : State) (c : Instr) (readBack : List LineBit) (place at_ : Nat) (e : TxEntry) (a : Attempt) (n : Counter)
      (f : Flag),
    let u := s.elapse (at_ + 1 - a.elapsed)
    s.resetHeld = false → s.mode = .joined → s.CountersSound → s.sendingEntry = some (place, e, a) → a.after = .keep →
    a.mismatchAt readBack at_ →
    (c = .collision readBack ∧ at_ < 30 ∧ s.settings.attemptLimit ≤ e.attempts + 1 ∧ n = .excessDrops ∧
        f = .excessAttempts) ∨
      (c = .lateCollision readBack ∧ 30 ≤ at_ ∧ n = .lateColl ∧ f = .lateCollision) →
    s.line.isoScore < 3 → s.line.markWaiting = false → s.line.queue.length ≤ 8 →
    atMostOne (fun x => x.cls == .mark) s.line.queue →
    ∃ t, exec c s = .next t ∧ t.counter n = raisedCount (s.counter n) ∧ State.flagged f s t ∧
      t.line = { u.line with queue := t.line.queue, idle := 0, isoScore := s.line.isoScore + 1 } ∧
      (e.cls ≠ .ask →
        t.line.queue = u.line.queue.eraseIdx place ++ if e.cls = .mark then [TxEntry.fresh .mark [] none] else []) ∧
      (e.cls = .ask → ∃ notices, t.line.queue = u.line.queue.eraseIdx place ++ notices ∧
        ∀ x ∈ notices, x.cls = .essential) ∧
      (∀ m : Nat, e.cls = .ask → s.askOfBody e.body = some m →
        (t.asks.entries[m]?).map AskEntry.state = some .failed) ∧
      (e.cls = .ask → State.askGivenUp e.body (u.line.queue.eraseIdx place) u t ∧
        State.sameBut ([.queue, .idle, .line, .asks, .platform] ++ statusParts ++ followers) u t) ∧
      (e.cls ≠ .ask →
        State.sameBut ([.queue, .idle, .line] ++ statusParts ++ followers) u t)) ∧
  (∀ (s : State) (c : Instr) (readBack : List LineBit) (place at_ : Nat) (e : TxEntry) (a : Attempt),
    s.resetHeld = false → s.mode = .joined → s.sendingEntry = some (place, e, a) → a.after = .keep →
    a.mismatchAt readBack at_ →
    (c = .collision readBack ∧ at_ < 30 ∧ s.settings.attemptLimit ≤ e.attempts + 1) ∨
      (c = .lateCollision readBack ∧ 30 ≤ at_) →
    s.line.isoScore < 3 → s.line.markWaiting = true → s.line.queue.length ≤ 8 → (∀ x ∈ s.line.queue, x.cls ≠ .mark) →
    ∃ t, exec c s = .next t ∧ TxEntry.fresh .mark [] none ∈ t.line.queue ∧ t.line.markWaiting = false ∧
      (e.cls ≠ .ask →
        t.line.queue =
          (s.elapse (at_ + 1 - a.elapsed)).line.queue.eraseIdx place ++ [TxEntry.fresh .mark [] none])) ∧
  (∀ (s : State) (readBack : List LineBit) (place : Nat) (e : TxEntry) (a : Attempt),
    s.sendingEntry = some (place, e, a) → (∀ k : Nat, 30 ≤ k → ¬ a.mismatchAt readBack k) →
    exec (.lateCollision readBack) s = .next s) ∧
  (∀ (s : State) (readBack : List LineBit) (bit place : Nat) (e : TxEntry) (a : Attempt),
    let u := s.elapse (bit + 1 - a.elapsed)
    s.resetHeld = false → s.mode = .joined → s.CountersSound → s.sendingEntry = some (place, e, a) → 30 ≤ bit →
    a.mismatchAt readBack bit → s.line.isoScore < 3 → s.line.markWaiting = false →
    (∀ (body : List Byte) (stagger : Option Nat), a.after = .replace body stagger →
      ∃ t, exec (.lateCollision readBack) s = .next t ∧ State.counted .lateColl s t ∧ State.flagged .lateCollision s t ∧
        t.line =
          { u.line with
            queue := u.line.queue.set place (TxEntry.fresh e.cls body stagger), idle := 0
            isoScore := s.line.isoScore + 1 } ∧
        State.sameBut ([.queue, .idle, .line] ++ statusParts ++ followers) u t) ∧
    (a.after = .remove →
      ∃ t, exec (.lateCollision readBack) s = .next t ∧ State.flagged .lateCollision s t ∧
        (∀ d : Counter, t.counter d =
          if d = .lateColl ∨ d = .stateLate then raisedCount (s.counter d) else s.counter d) ∧
        t.line =
          { u.line with
            queue := u.line.queue.eraseIdx place, idle := 0, isoScore := s.line.isoScore + 1 } ∧
        State.sameBut ([.queue, .idle, .line] ++ statusParts ++ followers) u t)) ∧
  (∀ (s : State) (before after : List TxEntry) (e : TxEntry),
    s.resetHeld = false → s.mode = .joined → s.CountersSound → s.line.queue = before ++ e :: after →
    s.settings.attemptLimit ≤ e.attempts → (∀ x ∈ before, x.attempts < s.settings.attemptLimit) →
    s.line.isoScore < 3 → s.line.markWaiting = false → s.line.queue.length ≤ 8 →
    atMostOne (fun x => x.cls == .mark) s.line.queue →
    ∃ t, exec .excessAttemptsDiscard s = .next t ∧ State.counted .excessDrops s t ∧
      State.flagged .excessAttempts s t ∧
      t.line = { s.line with queue := t.line.queue, isoScore := s.line.isoScore + 1 } ∧
      (e.cls ≠ .ask → e.cls ≠ .mark → t.line.queue = before ++ after) ∧
      (e.cls = .mark → t.line.queue = before ++ after ++ [TxEntry.fresh .mark [] none]) ∧
      (e.cls = .ask → State.askGivenUp e.body (before ++ after) s t) ∧
      (e.cls ≠ .ask → State.sameBut ([.queue, .line] ++ statusParts ++ followers) s t) ∧
      State.sameBut ([.queue, .line, .asks, .platform] ++ statusParts ++ followers) s t)

/-- The fourth failure in a row isolates the station at once (R23): the score is 0, the queue empty, the isolation
count 0 and its timer at the round period; and outside JOINED the agreement is STOP with nothing held (R51).
ISOLATION_ENTRY on its own does the same. Each frame removed from the queue counts in TX_DROPS (R15), each ASK among
them is FAILED (R158), with the end of a fallback ask (R121), and a drive brakes or stops (R60). That a discarded ASK
is reported, a waiting MARK offered, and a replacement or removal that a late collision's entry has met applied (R13)
before it, is the model's choice (log 34). The isolation count (R24): the period timer's expiry raises it and starts
the timer again; at 8 the station is LISTENING, marked as returning, its marks-taken count and round timer at 0 (R26,
R42). ISOLATION_END on its own does the same. That a command with a time of its own first lets that time pass is the
model's choice (log 2). -/
def Obligations.IsolationBeginsAndEnds : Prop :=
  (∀ (s u : State) (c : Instr) (readBack : List LineBit) (place bit : Nat) (e : TxEntry) (a : Attempt),
    s.resetHeld = false → s.mode = .joined →
    (c = .isolationEntry ∧ 4 ≤ s.line.isoScore ∧ u = s ∨
      s.line.isoScore = 3 ∧ s.sendingEntry = some (place, e, a) ∧ a.mismatchAt readBack bit ∧
        u = s.elapse (bit + 1 - a.elapsed) ∧
        (c = .collision readBack ∧ bit < 30 ∧ a.after = .keep ∧ s.settings.attemptLimit ≤ e.attempts + 1 ∨
          c = .lateCollision readBack ∧ 30 ≤ bit)) →
    ∃ t, exec c s = .next t ∧ t.mode = .isolated ∧
      t.line =
        { u.line with
          queue := [], markWaiting := false, idle := t.line.idle, isoScore := 0, isoCount := 0
          isoTimer := some s.settings.periodTime } ∧
      t.agreement = { s.agreement with level := .stop, holders := [], reasons := 0, silentReason := false, skew := false } ∧
      t.round.roundLost = false ∧ u.driveLeft t ∧
      (c = .isolationEntry ∨ a.after = .keep ∨ e.cls ≠ .ask → u.asksDropped t) ∧
      (s.CountersSound →
        (c = .isolationEntry ∨ (∃ body stagger, a.after = .replace body stagger) →
          t.counter .txDrops = min 65535 (s.counter .txDrops + s.line.queue.length)) ∧
        (c ≠ .isolationEntry → a.after = .keep ∨ a.after = .remove → s.line.markWaiting = false → e.cls ≠ .ask →
          t.counter .txDrops = min 65535 (s.counter .txDrops + (s.line.queue.length - 1)))) ∧
      State.sameBut
        ([.mode, .queue, .idle, .line, .round, .agreement, .drive, .asks, .platform] ++ statusParts ++ followers) u t) ∧
  (∀ (s u : State) (c : Instr), s.resetHeld = false → s.mode = .isolated →
    ((∃ n, c = .isolationPeriodExpiry ∧ s.line.isoTimer = some n ∧ u = s.elapse n) →
      s.line.isoCount < 7 →
      ∃ t, exec c s = .next t ∧
        t.line = { u.line with isoCount := s.line.isoCount + 1, isoTimer := some s.settings.periodTime } ∧
        State.sameBut (.line :: followers) u t) ∧
    ((∃ n, c = .isolationPeriodExpiry ∧ s.line.isoTimer = some n ∧ s.line.isoCount = 7 ∧ u = s.elapse n) ∨
        c = .isolationEnd ∧ s.line.isoCount = 8 ∧ u = s →
      ∃ t, exec c s = .next t ∧ t.mode = .listening ∧
        t.line = { u.line with isoCount := 8, returning := true, isoTimer := none } ∧
        t.round.marksTaken = 0 ∧ t.round.timer = 0 ∧
        (∀ m, s.conv.mode = some m → t.conv.phase = .zeroing ∧ t.conv.timer = some (zeroingTime m)) ∧
        State.sameBut ([.mode, .line, .round, .conv] ++ followers) u t))

/-- A frame read back as sent to its last bit (R22): the entry leaves the queue, the isolation score is 0, the copy is
offered to the Capture Store with its own flag, and for an ASK its entry is WAITING with no mark counted (R158). No
reception counter counts it. The own STATE reported sent (R22, R36): it leaves the queue, the isolation score is 0,
and the published side enters the own slot of the current side; at a CABIN it is judged for the own cabin record as a
heard one is (R69 to R71). A replacement or removal that met the entry does not apply (R13). Where a MARK waits for a
place, the entry's leaving offers it afresh (R28). A frame with a bit read back otherwise than it was sent is no success,
and nothing changes (R3, log 1). That a command with a
time of its own first lets that time pass is the model's choice (log 2). The MARK that waits for a place is a mark of
the model's (log 18). -/
def Obligations.SuccessfulFrameLeavesTheQueue : Prop :=
  (∀ (s : State) (place : Nat) (e : TxEntry) (a : Attempt),
    let u := s.elapse (10 * a.frame.length - a.elapsed)
    s.resetHeld = false → s.mode = .joined → s.CountersSound → s.sendingEntry = some (place, e, a) →
    s.line.markWaiting = false → e.cls ≠ .mark → e.cls ≠ .state →
    ∃ t, exec (.transmissionSuccess (lineBits a.frame)) s = .next t ∧ t.line.queue = u.line.queue.eraseIdx place ∧
      t.line = { u.line with queue := t.line.queue, idle := 0, isoScore := 0 } ∧
      (∀ n : Nat, e.cls = .ask → s.askOfBody e.body = some n →
        (t.asks.entries[n]?).map (fun x => (x.state, x.marks)) = some (.waiting, 0)) ∧
      (∀ d : Counter, d ≠ .captureDrops → t.counter d = s.counter d) ∧
      (let f := Frame.ofBytes (a.frame.drop 1)
       t.capture = (s.offerCapture f.header f.sender f.round f.body true).capture) ∧
      State.sameBut ([.queue, .idle, .line, .capture] ++ statusParts ++ followers ++
        if e.cls = .ask then [.asks] else []) u t) ∧
  (∀ (s : State) (place : Nat) (e : TxEntry) (a : Attempt) (p : Published),
    let u := s.elapse (10 * a.frame.length - a.elapsed)
    s.resetHeld = false → s.mode = .joined → s.CountersSound → s.sendingEntry = some (place, e, a) → e.cls = .state →
    s.line.markWaiting = false → s.round.published = some p → p.round = s.round.number → s.round.firstMark = false →
    ∃ t, exec (.transmissionSuccess (lineBits a.frame)) s = .next t ∧ t.line.queue = u.line.queue.eraseIdx place ∧
      t.line = { u.line with queue := t.line.queue, idle := 0, isoScore := 0 } ∧
      t.round.current =
        { s.round.current with slots := s.round.current.slots.set s.station (some ⟨p.body, p.congested⟩) } ∧
      t.round = { u.round with current := t.round.current, working := t.round.working } ∧
      (∀ d : Counter, d ≠ .captureDrops → t.counter d = s.counter d) ∧
      (let f := Frame.ofBytes (a.frame.drop 1)
       t.capture = (s.offerCapture f.header f.sender f.round f.body true).capture) ∧
      (∀ i : Nat, s.role = .cabin → s.cabinIndex = some i → i < 48 → s.TablesSound →
        State.cabinStateJudged s t i p.body.vote p.round p.body.fields) ∧
      State.sameBut
        ([.queue, .idle, .line, .round, .capture] ++ statusParts ++ followers ++
          if s.role = .cabin then [.replica] else []) u t) ∧
  (∀ (s : State) (place : Nat) (e : TxEntry) (a : Attempt),
    let u := s.elapse (10 * a.frame.length - a.elapsed)
    s.resetHeld = false → s.mode = .joined → s.sendingEntry = some (place, e, a) → e.cls ≠ .mark →
    s.line.markWaiting = true → s.line.queue.length ≤ 8 → (∀ x ∈ s.line.queue, x.cls ≠ .mark) →
    ∃ t, exec (.transmissionSuccess (lineBits a.frame)) s = .next t ∧
      t.line.queue = u.line.queue.eraseIdx place ++ [TxEntry.fresh .mark [] none] ∧
      t.line = { u.line with queue := t.line.queue, markWaiting := false, idle := 0, isoScore := 0 } ∧
      State.sameBut
        ([.queue, .idle, .line, .round, .replica, .asks, .capture] ++ statusParts ++ followers) u t) ∧
  (∀ (s : State) (readBack : List LineBit) (place : Nat) (e : TxEntry) (a : Attempt),
    s.sendingEntry = some (place, e, a) → readBack ≠ lineBits a.frame →
    exec (.transmissionSuccess readBack) s = .next s)

/-- The transmit queue and the isolation counts stay sound at every step (R13, R15, R23, R24, R25). -/
def Obligations.EveryStepKeepsTheQueueSound : Prop :=
  ∀ s t : State, s.QueueSound → step s = .next t → t.QueueSound

/-! ### Rounds and the roster (chapter 2) -/

/-- A mark taken, heard or own, opens its round (R26, R31, R34, R37): the round number is the mark's, the timer starts
again, the heard table swaps, and the working side as the mark leaves it is published. ROUND_JUMP shows a heard number
that does not follow the own, except at the first mark. That a command with a time of its own first lets that time pass
is the model's choice (log 2, log 22). That a break after a frame's last byte leaves the frame as it is, is the model's
choice (log 45). -/
def Obligations.TakenMarkOpensItsRound : Prop :=
  ∀ (c : Instr) (s u : State) (number : Byte) (heard : Option (List Byte)),
    s.takesMark c u number heard → s.FollowersSound →
    ∃ t, exec c s = .next t ∧ t.round.number = number ∧ t.round.timer = 0 ∧ t.round.firstMark = false ∧
      t.round.roundLost = false ∧ t.round.frozen = s.round.current ∧
      t.round.current = ⟨number, List.replicate 64 none⟩ ∧
      t.round.published = some ⟨t.round.working, t.capture.congested, number⟩ ∧
      (t.flag .roundJump = true ↔
        heard.isSome = true ∧ s.round.firstMark = false ∧ number ≠ s.round.number + 1) ∧
      State.sameBut
        ([.mode, .roster, .queue, .idle, .line, .round, .agreement, .drive, .replica, .cabin, .platform, .conv, .asks,
          .capture] ++ statusParts ++ followers) u t

/-- A MARK that is not taken (R30): from a sender without a rank it sets STRANGER, in the early-mark window it sets
EARLY_MARK and is counted, and nothing of a mark happens. While ISOLATED every MARK delivered, discarded or taken,
counts for the isolation (R24): below the eighth the isolation count rises and the period timer starts again with the
round period, and the eighth gives LISTENING. That a MARK that is both early and from a sender without a rank falls to
the first case is the model's choice (log 38); that the reception lets the frame's time pass is one too (log 22). That a
break after a frame's last byte leaves the frame as it is, is the model's choice (log 45). -/
def Obligations.RanklessOrEarlyMarkIsDiscarded : Prop :=
  (∀ (s₀ s : State) (bits : List LineBit) (f : Frame),
    s₀.atFrameEnd bits s → f.acceptedBy bits s → f.header = classHeader .mark → s.CountersSound →
    let leaves := fun t : State =>
      (s.mode ≠ .isolated → State.sameBut (.idle :: .capture :: statusParts ++ followers) s t) ∧
      (s.mode = .isolated → State.isolationCounts s t ∧
        t.line =
          { s.line with
            idle := 12, isoCount := t.line.isoCount, isoTimer := t.line.isoTimer, returning := t.line.returning } ∧
        t.round = { s.round with marksTaken := t.round.marksTaken, timer := t.round.timer, working := t.round.working } ∧
        (s.line.isoCount < 7 → State.sameBut (.idle :: .line :: .capture :: statusParts ++ followers) s t) ∧
        State.sameBut (.mode :: .idle :: .line :: .round :: .conv :: .capture :: statusParts ++ followers) s t)
    ((s.entryAt f.sender.toNat).rank = none →
      ∃ t, exec (.frameReception bits) s₀ = .next t ∧ t.flag .stranger = true ∧
        (∀ d : Counter, d ≠ .framesOk → d ≠ .captureDrops → t.counter d = s.counter d) ∧ leaves t) ∧
    ((s.entryAt f.sender.toNat).rank ≠ none → s.round.firstMark = false →
      s.round.timer < s.settings.periodTime / 2 →
      ∃ t, exec (.frameReception bits) s₀ = .next t ∧ t.flag .earlyMark = true ∧
        t.counter .earlyMarks = raisedCount (s.counter .earlyMarks) ∧
        (∀ d : Counter, d ≠ .framesOk → d ≠ .earlyMarks → d ≠ .captureDrops → t.counter d = s.counter d) ∧
        leaves t)) ∧
  (∀ (c : Instr) (s u : State) (number : Byte) (heard : Option (List Byte)), s.takesMark c u number heard →
    s.mode = .isolated → ∃ t, exec c s = .next t ∧ State.isolationCounts u t)

/-- A STATE delivered (R35): of the current round it takes its sender's slot on the current side, of another round it
counts as STALE, and while the first-mark mark is set it is neither entered nor counted. A CABIN STATE of the current
round reaches the replica (R68 to R70): it is judged, and either updates the record of its sender's roster cabin index,
all fields at once, or sets the flag of its refusal and leaves every record. With the first-mark mark set, or of another
round, it leaves the replica as it was. That of a body in two cases STRANGER alone is set is the model's choice (log
35), and that the reception lets the frame's time pass (log 22). That a break after a frame's last byte leaves the frame
as it is, is the model's choice (log 45). -/
def Obligations.DeliveredStateIsEntered : Prop :=
  (∀ (s₀ s : State) (bits : List LineBit) (f : Frame),
    s₀.atFrameEnd bits s → f.acceptedBy bits s → f.header = classHeader .state → s.CountersSound →
    ∃ t, exec (.frameReception bits) s₀ = .next t ∧
      (s.round.firstMark = true → t.round.current = s.round.current) ∧
      (s.round.firstMark = false → f.round = s.round.number →
        t.round.current.slots = s.round.current.slots.set f.sender.toNat (some (HeardState.ofBody f.body)) ∧
          t.round.current.round = s.round.current.round) ∧
      (s.round.firstMark = false → f.round ≠ s.round.number →
        t.round.current = s.round.current ∧ t.counter .stale = raisedCount (s.counter .stale)) ∧
      (s.round.firstMark = true ∨ f.round = s.round.number → t.counter .stale = s.counter .stale) ∧
      t.round.frozen = s.round.frozen ∧ t.round.number = s.round.number ∧ t.round.published = s.round.published ∧
      State.sameBut
        (.idle :: .capture :: .round :: (if f.body[4]? = some Role.cabin.code then [.replica] else []) ++ statusParts ++
          followers) s t) ∧
  (∀ (s₀ s : State) (bits : List LineBit) (f : Frame) (i : Nat),
    s₀.atFrameEnd bits s → f.acceptedBy bits s → f.header = classHeader .state →
    byteAt f.body 4 = Role.cabin.code → s.TablesSound →
    (s.entryAt f.sender.toNat).cabin = some i → i < 48 →
    let current := s.round.firstMark = false ∧ f.round = s.round.number
    ∃ t, exec (.frameReception bits) s₀ = .next t ∧
      (current → State.cabinStateJudged s t i (byteAt f.body 0) f.round (f.body.drop 5)) ∧
      (¬ current → t.replica = s.replica))

/-- The swap brings the roster up to date from the side just frozen (R40, R41): silent counts and SILENT of every
expected station, except at the first mark, and the last STATE of each station heard. STATION_SILENT shows a station
that enters SILENT; the configured fields stay. STATION_SILENT_ENTRY on its own (R40): an expected station whose silent
count stands at the limit enters SILENT, and the flag is set; no other station's entry changes. That a mark's frame
takes its time first is the model's choice (log 2, log 22). That a break after a frame's last byte leaves the frame as
it is, is the model's choice (log 45). -/
def Obligations.SwapBringsTheRosterUpToDate : Prop :=
  (∀ (c : Instr) (s u : State) (number : Byte) (heard : Option (List Byte)),
    s.takesMark c u number heard → s.TablesSound → s.SettingsSound → s.FollowersSound →
    ∃ t, exec c s = .next t ∧
      (∀ n : Fin 64,
        let e := s.entryAt n.val
        let e' := t.entryAt n.val
        let slot := s.round.current.slot n.val
        (e'.role = e.role ∧ e'.cabin = e.cabin ∧ e'.rank = e.rank) ∧
        ((e.role = .absent ∨ s.round.firstMark = true) → e'.silentCount = e.silentCount ∧ e'.silent = e.silent) ∧
        (e.role ≠ .absent → s.round.firstMark = false → slot ≠ none → e'.silentCount = 0 ∧ e'.silent = false) ∧
        (e.role ≠ .absent → s.round.firstMark = false → slot = none →
          e'.silentCount = min 15 (e.silentCount + 1) ∧
            e'.silent = (e.silent || decide (s.settings.silenceLimit ≤ min 15 (e.silentCount + 1)))) ∧
        (∀ h, slot = some h → e'.last = some h.body) ∧ (slot = none → e'.last = e.last)) ∧
      (t.flag .stationSilent = true ↔
        s.round.firstMark = false ∧
          ∃ n : Fin 64, (s.entryAt n.val).role ≠ .absent ∧ s.round.current.slot n.val = none ∧
            (s.entryAt n.val).silent = false ∧
            s.settings.silenceLimit ≤ min 15 ((s.entryAt n.val).silentCount + 1))) ∧
  (∀ (s : State) (n : Fin 64), s.running → s.TablesSound → (s.entryAt n.val).role ≠ .absent →
    s.settings.silenceLimit ≤ (s.entryAt n.val).silentCount → (s.entryAt n.val).silent = false →
    ∃ t, exec (.stationSilentEntry n) s = .next t ∧ t.entryAt n.val = { s.entryAt n.val with silent := true } ∧
      (∀ m : Nat, m ≠ n.val → t.entryAt m = s.entryAt m) ∧ State.flagged .stationSilent s t ∧
      State.sameBut ([.roster, .flags, .attention, .renewal] ++ followers) s t)

/-- Joining (R42): the mark that brings the marks-taken count of a LISTENING station to 2, or to 1 after isolation,
makes it JOINED and clears the returning mark; a mark before that only counts. JOIN on its own does the same. Founding
(R43, R51): a LISTENING station with a rank enters JOINED at 2P + 5 ms times the rank, with round number 255, an empty
current side of round 255, the first-mark mark set and the timer at 0, offers its MARK, and holds no agreement but STOP.
That a command with a time of its own first lets that time pass is the model's choice (log 2). A frame heard takes its
time first, by the model's choice (log 22). That a break after a frame's last byte leaves the frame as it is, is the
model's choice (log 45). -/
def Obligations.StationsJoinAndFound : Prop :=
  (∀ (c : Instr) (s u : State) (number : Byte) (heard : Option (List Byte)), s.mode = .listening →
    (s.takesMark c u number heard →
      ∃ t, exec c s = .next t ∧ t.round.marksTaken = min 2 (s.round.marksTaken + 1) ∧
        (1 ≤ s.round.marksTaken ∨ s.line.returning = true → t.mode = .joined ∧ t.line.returning = false) ∧
        (s.round.marksTaken = 0 → s.line.returning = false → t.mode = .listening ∧ t.line.returning = false)) ∧
    (s.resetHeld = false → (s.round.marksTaken = 2 ∨ s.round.marksTaken = 1 ∧ s.line.returning = true) →
      ∃ t, exec .join s = .next t ∧ t.mode = .joined ∧ t.line = { s.line with returning := false } ∧
        State.sameBut ([.mode, .line] ++ followers) s t)) ∧
  (∀ (s : State) (k : Nat), s.resetHeld = false → s.mode = .listening → s.rank = some k → s.line.queue = [] →
    let u := s.elapse (2 * s.settings.periodTime + ms (5 * k) - s.round.timer)
    ∃ t, exec .founding s = .next t ∧ t.mode = .joined ∧ t.line.queue = [TxEntry.fresh .mark [] none] ∧
      t.round =
        { u.round with
          number := 255, current := ⟨255, List.replicate 64 none⟩, firstMark := true, timer := 0, roundLost := false
          markOffered := false, working := t.round.working } ∧
      t.agreement =
        { s.agreement with level := .stop, holders := [], reasons := 0, silentReason := false, skew := false } ∧
      t.line = { u.line with queue := t.line.queue, markWaiting := false, returning := false } ∧
      State.sameBut ([.mode, .queue, .line, .round, .agreement] ++ followers) u t)

/-- The transmit queue at a mark (R16, R17, R38): the STATE of the old round leaves it, counted in STATE_LATE, and an
own MARK leaves it, sent or at a heard one; entries of other classes stay as they are, with their attempt counts and
back-off; a joined station's published STATE joins them with its stagger of 2 ms times the station number; and
peers-congested follows the congested flags of the others on the frozen side. Of every role, a PLATFORM with a cabin in
its zone or a rebuild to come apart, which may offer asks and notices of its own between the two: of its queue, no entry
is lost but an INFO NOTICE that one of those displaces (R14). A MARK that waits for a place waits no more (R28, log 18).
The station's congested flag is set when the DEVICE slots are at or below the threshold (R193); that an own MARK is
captured before the work of its mark, so that its slot is counted among those taken, is the model's choice (log 41).
That a command with a time of its own first lets that time pass is the model's choice (log 2, log 22). That a break
after a frame's last byte leaves the frame as it is, is the model's choice (log 45). -/
def Obligations.QueueAtAMark : Prop :=
  ∀ (c : Instr) (s u : State) (number : Byte) (heard : Option (List Byte)),
    s.takesMark c u number heard → s.mode = .joined → s.CountersSound → s.QueueSound →
    let kept := u.line.queue.filter fun x => x.cls != .state && x.cls != .mark
    let quiet := s.platform.zone = [] ∧ (s.role = .platform → s.platform.rebuildPending = false)
    ∃ t, exec c s = .next t ∧
      (∃ p, t.round.published = some p ∧
        (kept.length < 8 → quiet →
          t.line.queue =
            kept ++ [TxEntry.fresh .state (p.body.bytes p.congested) (some (ms (2 * s.station)))])) ∧
      (kept.filter fun x => x.cls != .info).Sublist t.line.queue ∧
      t.counter .stateLate =
        (if s.line.queue.any (fun x => x.cls == .state) then raisedCount (s.counter .stateLate)
          else s.counter .stateLate) ∧
      (t.line.peersCongested = true ↔
        ∃ n : Fin 64, n.val ≠ s.station ∧ ∃ h, s.round.current.slot n.val = some h ∧ h.congested = true) ∧
      t.line.markWaiting = false ∧ (t.capture.congested = true ↔ t.capture.devices ≤ s.settings.congestion)

/-- The round timer's moments in JOINED and LISTENING (R26, R27, R43, R44). The end of the early-mark window has no
effect but that the time has come. At P + 5 ms times the rank a joined station with a rank offers its MARK, once in
each pass. At 2P a joined station loses the round: ROUND_LOSS is set, and a STATE that waits leaves the queue, counted
in STATE_LATE. A round lost on a DRIVE station (R44, R60): RELEASING goes back to BRAKED, MOVING stops, and the
confirm count is 0. A STATE that is being sent is not cut off: it is marked for its removal (R13, R44, log 17). Where a
MARK waits for a place, the STATE's leaving offers it afresh (R28, log 18). That a
command with a time of its own first lets that time pass is the model's choice (log 2). The round timer holds at its
last threshold (log 21). -/
def Obligations.RoundTimerReachesItsThresholds : Prop :=
  (∀ s : State, s.resetHeld = false → s.CountersSound →
    (s.mode.receiving = true → s.round.firstMark = false → s.round.timer < s.settings.periodTime / 2 →
      ∃ t, exec .earlyMarkWindowEnd s = .next t ∧ t.round.timer = s.settings.periodTime / 2 ∧
        State.sameBut followers (s.elapse (s.settings.periodTime / 2 - s.round.timer)) t) ∧
    (∀ k, s.mode = .joined → s.rank = some k → s.round.markOffered = false →
      s.round.timer ≤ s.settings.periodTime + ms (5 * k) →
      s.line.queue.length < 8 → (∀ x ∈ s.line.queue, x.cls ≠ .mark) →
      let u := s.elapse (s.settings.periodTime + ms (5 * k) - s.round.timer)
      ∃ t, exec .markOfferTime s = .next t ∧ t.round.timer = s.settings.periodTime + ms (5 * k) ∧
        t.line.queue = u.line.queue ++ [TxEntry.fresh .mark [] none] ∧
        t.round = { u.round with markOffered := true, working := t.round.working } ∧
        State.sameBut ([.queue, .round] ++ followers) u t) ∧
    (s.mode = .joined → s.round.roundLost = false → s.role ≠ .drive → s.line.markWaiting = false →
      s.round.timer ≤ 2 * s.settings.periodTime →
      (∀ x ∈ s.line.queue, x.attempt = none) →
      let u := s.elapse (2 * s.settings.periodTime - s.round.timer)
      ∃ t, exec .roundLoss s = .next t ∧ t.round.timer = 2 * s.settings.periodTime ∧
        t.round = { u.round with roundLost := true, working := t.round.working } ∧ State.flagged .roundLoss s t ∧
        t.line.queue = u.line.queue.filter (fun x => x.cls != .state) ∧
        t.counter .stateLate =
          (if s.line.queue.any (fun x => x.cls == .state) then raisedCount (s.counter .stateLate)
            else s.counter .stateLate) ∧
        State.sameBut ([.queue, .round] ++ statusParts ++ followers) u t) ∧
    (∀ (before after : List TxEntry) (e : TxEntry) (a : Attempt), s.mode = .joined → s.round.roundLost = false →
      let u := s.elapse (2 * s.settings.periodTime - s.round.timer)
      u.line.queue = before ++ e :: after → e.cls = .state → e.attempt = some a →
      (∀ x ∈ before ++ after, x.cls ≠ .state) →
      ∃ t, exec .roundLoss s = .next t ∧ t.round.roundLost = true ∧
        t.line.queue = before ++ { e with attempt := some { a with after := .remove } } :: after ∧
        t.counter .stateLate = s.counter .stateLate)) ∧
  (∀ s : State, s.resetHeld = false → s.mode = .joined → s.round.roundLost = false → s.line.markWaiting = true →
    s.line.queue.length ≤ 8 → (∃ x ∈ s.line.queue, x.cls = .state) →
    (∀ x ∈ s.line.queue, x.cls ≠ .mark ∧ (x.cls = .state → x.attempt = none)) →
    let u := s.elapse (2 * s.settings.periodTime - s.round.timer)
    ∃ t, exec .roundLoss s = .next t ∧ t.round.roundLost = true ∧ t.line.markWaiting = false ∧
      t.line.queue = u.line.queue.filter (fun x => x.cls != .state) ++ [TxEntry.fresh .mark [] none] ∧
      State.sameBut ([.queue, .round, .drive] ++ statusParts ++ followers) u t) ∧
  (∀ s : State, s.resetHeld = false → s.mode = .joined → s.round.roundLost = false → s.role = .drive → s.DriveSound →
    let u := s.elapse (2 * s.settings.periodTime - s.round.timer)
    let check := if s.brakeReleased then some (sec 2) else none
    ∃ t, exec .roundLoss s = .next t ∧ t.round.roundLost = true ∧ t.flag .roundLoss = true ∧
      (s.drive.state = .braked → t.drive = { u.drive with confirm := 0 }) ∧
      (s.drive.state = .releasing →
        t.drive = { u.drive with state := .braked, releaseTimer := none, brakeCheckTimer := check }) ∧
      (s.drive.state = .moving → s.stationary = false →
        t.drive =
          { u.drive with state := .stopping, demand := .stop, stopTimer := some (sec s.settings.stopTimeout) }) ∧
      (s.drive.state = .moving → s.stationary = true →
        t.drive = { u.drive with state := .braked, demand := .stop, brakeCheckTimer := check }) ∧
      (s.drive.state = .stopping ∨ s.drive.state = .faulted → t.drive = u.drive) ∧
      State.sameBut ([.queue, .round, .drive] ++ statusParts ++ followers) u t)

/-- The working side of the own STATE and a PLATFORM's gate commands follow the state at every step (R37, R114). -/
def Obligations.GatesAndOwnStateFollow : Prop :=
  ∀ s t : State, s.FollowersSound → step s = .next t → t.FollowersSound

/-! ### Motion agreement and the drives (chapter 3) -/

/-- The vote counted for an expected station, row by row of the tables of R46 and R48. The agreed level at a mark taken
while JOINED (R49): no effective vote of an expected station is more restrictive, some station votes it unless it is
CRUISE, and it is never NONE; the round closed is that of the side just frozen. The holders are the stations that vote
the level, below CRUISE, in ascending order, each with its source, reasons and silent mark; the reasons are their union,
with SILENT for a holder that is silent or counted by a silence vote (R50). That a mark's frame takes its time first is
the model's choice (log 2, log 22). That a break after a frame's last byte leaves the frame as it is, is the model's
choice (log 45). -/
def Obligations.AgreedLevelIsTheMostRestrictiveVote : Prop :=
  (∀ (g : Settings) (h : Option HeardState) (e : RosterEntry),
    let v := effectiveVote g h e
    let silence := g.silenceVote e.role
    (∀ x, h = some x → v = ⟨judgeVote e.role x.body.vote, .heard, x.body.reasons⟩) ∧
    (h = none → e.last = none → v = ⟨silence, .silence, 0⟩) ∧
    (∀ b, h = none → e.last = some b →
      (e.silent = false ∨ (judgeVote e.role b.vote).toNat ≤ silence.toNat →
        v = ⟨judgeVote e.role b.vote, .last, b.reasons⟩) ∧
      (e.silent = true → silence.toNat < (judgeVote e.role b.vote).toNat → v = ⟨silence, .silence, 0⟩)) ∧
    (∀ vote : Byte,
      (vote = 0 → judgeVote e.role vote = .stop) ∧ (vote = 1 → judgeVote e.role vote = .creep) ∧
      (vote = 2 → judgeVote e.role vote = .cruise) ∧
      (vote = 3 → judgeVote e.role vote = if e.role = .console then .noLimit else .cruise) ∧
      (3 < vote.toNat → judgeVote e.role vote = .stop))) ∧
  (∀ (c : Instr) (s u : State) (number : Byte) (heard : Option (List Byte)), s.takesMark c u number heard →
    ∃ t, exec c s = .next t ∧
      (t.mode = .joined →
        let vote := fun n => effectiveVote t.settings (s.round.current.slot n) (t.entryAt n)
        let level := t.agreement.level
        let holds := fun n => (t.entryAt n).role != .absent && (vote n).level == level
        (∀ n : Fin 64, (t.entryAt n.val).role ≠ .absent → level.toNat ≤ (vote n.val).level.toNat) ∧
        (level = .cruise ∨ ∃ n : Fin 64, holds n.val = true) ∧ level ≠ .noLimit ∧
        t.agreement.roundClosed = some s.round.current.round ∧
        (level = .cruise →
          t.agreement.holders = [] ∧ t.agreement.reasons = 0 ∧ t.agreement.silentReason = false) ∧
        (level ≠ .cruise →
          t.agreement.holders =
            ((List.range 64).filter holds).map
              fun n => ⟨n, (vote n).source, (vote n).reasons, (t.entryAt n).silent⟩) ∧
        (∀ i : Fin 16, t.agreement.reasons.getLsbD i.val = t.agreement.holders.any fun h => h.reasons.getLsbD i.val) ∧
        t.agreement.silentReason = t.agreement.holders.any fun h => h.silent || h.source == .silence) ∧
      (t.mode ≠ .joined → t.agreement = s.agreement))

/-- The two comparisons of a heard MARK (R32, R52, R75): only while JOINED, against the state before the mark acts. A
level that differs sets AGREE_DIVERGE; an occupied count or digest that differs sets REPLICA_DIVERGE and the divergence
mark. Skew among the drives (R53): found at a mark taken while JOINED when two or more STATEs with the DRIVE role code
stand on the frozen side and their targets are not all the same level; at a DRIVE station it sets SKEW, at others no
flag. At a mark taken while not JOINED the skew flag is left as it stands. That a mark's frame takes its time first is
the model's choice (log 2, log 22). That a break after a frame's last byte leaves the frame as it is, is the model's
choice (log 45). -/
def Obligations.MarksAreComparedAndSkewIsFound : Prop :=
  (∀ (c : Instr) (s u : State) (number : Byte) (heard : Option (List Byte)), s.takesMark c u number heard →
    s.FollowersSound →
    ∃ t, exec c s = .next t ∧
      (t.flag .agreeDiverge = true ↔
        ∃ body, heard = some body ∧ s.mode = .joined ∧ byteAt body 3 ≠ s.agreement.level.code) ∧
      (t.flag .replicaDiverge = true ↔
        ∃ body, heard = some body ∧ s.mode = .joined ∧
          ¬ ((byteAt body 0).toNat = s.occupiedCount ∧ ofTwoBytes (byteAt body 1) (byteAt body 2) = s.digest.toNat)) ∧
      (t.replica.divergence = true ↔ t.flag .replicaDiverge = true)) ∧
  (∀ (c : Instr) (s u : State) (number : Byte) (heard : Option (List Byte)), s.takesMark c u number heard →
    s.TablesSound → s.FollowersSound →
    ∃ t, exec c s = .next t ∧
      (t.mode = .joined →
        (t.agreement.skew = true ↔
          ∃ n m : Fin 64, n ≠ m ∧ ∃ h, s.round.current.slot n.val = some h ∧ ∃ k, s.round.current.slot m.val = some k ∧
            h.body.role = .drive ∧ k.body.role = .drive ∧
            (byteAt h.body.fields 1 ≠ byteAt k.body.fields 1 ∨ 3 < (byteAt h.body.fields 1).toNat))) ∧
      (t.mode ≠ .joined → t.agreement.skew = s.agreement.skew) ∧
      (t.flag .skew = true ↔ t.mode = .joined ∧ t.agreement.skew = true ∧ s.role = .drive))

/-- The drive at a mark (R55 to R59, R64): the target is the agreed level as this mark has left it; BRAKED counts the
marks that confirm a release and enters RELEASING at the configured number (and MOVING, if the brake reports released);
RELEASING goes back to BRAKED on STOP or skew; MOVING follows the level, and stops on STOP or skew (at once BRAKED, if
at rest); STOPPING and FAULTED only take the target. The mark for skew found at the last mark taken is the model's (log
20). That a command with a time of its own first lets that time pass is the model's choice (log 2, log 22). That a break
after a frame's last byte leaves the frame as it is, is the model's choice (log 45). -/
def Obligations.DriveFollowsTheMark : Prop :=
  ∀ (c : Instr) (s u : State) (number : Byte) (heard : Option (List Byte)), s.takesMark c u number heard →
    s.role = .drive →
    ∃ t, exec c s = .next t ∧
      (let level := t.agreement.level
       let stops := level = .stop ∨ t.agreement.skew = true
       let d : Drive := { u.drive with target := level, skewFound := t.agreement.skew }
       let braked : Drive :=
         { d with
           state := .braked, demand := .stop, confirm := 0, releaseTimer := none, stopTimer := none
           faultClearTimer := none, brakeCheckTimer := if s.brakeReleased then some (sec 2) else none }
       (s.drive.state = .braked → (t.mode ≠ .joined ∨ stops) → 0 < s.settings.releaseConfirm →
         t.drive = { d with confirm := 0 }) ∧
       (s.drive.state = .braked → t.mode = .joined → ¬ stops →
         (s.drive.confirm + 1 < s.settings.releaseConfirm → t.drive = { d with confirm := s.drive.confirm + 1 }) ∧
         (s.settings.releaseConfirm ≤ s.drive.confirm + 1 → s.brakeReleased = false →
           t.drive =
             { d with state := .releasing, confirm := 0, releaseTimer := some (sec 2), brakeCheckTimer := none }) ∧
         (s.settings.releaseConfirm ≤ s.drive.confirm + 1 → s.brakeReleased = true →
           t.drive =
             { d with state := .moving, demand := level, confirm := 0, releaseTimer := none, brakeCheckTimer := none })) ∧
       (s.drive.state = .releasing → (stops → t.drive = braked) ∧ (¬ stops → t.drive = d)) ∧
       (s.drive.state = .moving →
         (¬ stops → t.drive = { d with demand := level }) ∧
         (stops → s.stationary = true → t.drive = braked) ∧
         (stops → s.stationary = false →
           t.drive =
             { d with state := .stopping, demand := .stop, stopTimer := some (sec s.settings.stopTimeout) })) ∧
       (s.drive.state = .stopping ∨ s.drive.state = .faulted → t.drive = d))

/-- The causes of a drive fault (R61, R62): DRIVE_FAULT, the release timer, the stop timer, the brake closing in
MOVING, and the brake-check timer. From any other state the drive enters FAULTED with the cause's reason, its brake
applied and its demand STOP, and offers a DRIVE_FAULT notice; in FAULTED the reason is added, with a notice if it is
new. That a command with a time of its own first lets that time pass is the model's choice (log 2). -/
def Obligations.FaultCauseFaultsTheDrive : Prop :=
  ∀ (s u : State) (c : Instr) (r : Reason), s.running → s.role = .drive → s.DriveSound →
    (c = .driveFaultActive ∧ s.driveFaultInput = false ∧ s.filterPassed 2 = true ∧ r = .driveFault ∧
        u = s.takeInput 2 true ∨
      (∃ n, c = .releaseTimerExpiry ∧ s.drive.releaseTimer = some n ∧ r = .brake ∧ u = s.elapse n) ∨
      (∃ n, c = .stopTimerExpiry ∧ s.drive.stopTimer = some n ∧ r = .stopOverrun ∧ u = s.elapse n) ∨
      c = .brakeReleasedInactive ∧ s.brakeReleased = true ∧ s.filterPassed 0 = true ∧ s.drive.state = .moving ∧
        r = .brake ∧ u = s.takeInput 0 false ∨
      ∃ n, c = .brakeCheckTimerExpiry ∧ s.drive.brakeCheckTimer = some n ∧ r = .brake ∧ u = s.elapse n) →
    ∃ t, exec c s = .next t ∧
      (s.drive.state ≠ .faulted →
        t.drive =
          { u.drive with
            state := .faulted, demand := .stop, confirm := 0, reasons := r.mask, releaseTimer := none
            stopTimer := none, brakeCheckTimer := if u.brakeReleased then some (sec 2) else none
            faultClearTimer :=
              if u.driveFaultInput = false ∧ u.stationary = true ∧ u.brakeReleased = false then some (sec 5)
              else none } ∧
        (s.hasRoom → u.queuedAlso t .essential (noticeBody .driveFault none r.bit s.drive.state.code.toNat))) ∧
      (s.drive.state = .faulted →
        t.drive =
          { u.drive with
            reasons := s.drive.reasons ||| r.mask
            faultClearTimer := if c = .driveFaultActive then none else u.drive.faultClearTimer
            brakeCheckTimer := if c = .driveFaultActive then u.drive.brakeCheckTimer else none } ∧
        (hasReason s.drive.reasons r = true → State.sameBut (.drive :: followers) u t) ∧
        (hasReason s.drive.reasons r = false → s.hasRoom →
          u.queuedAlso t .essential (noticeBody .driveFault none r.bit DriveState.faulted.code.toNat))) ∧
      State.sameBut (.drive :: queueParts ++ followers) u t

/-- The drive's inputs where no fault comes of them (R57, R59, R62, R63): BRAKE_RELEASED takes RELEASING to MOVING and
starts the brake check under an applied brake; its end stops the check; STATIONARY takes STOPPING to BRAKED; and in
FAULTED the fault-clear timer runs from 5 s while DRIVE_FAULT is inactive, the rim at rest and the brake closed. The
release confirmed (R56), and the fault cleared after 5 s at rest (R63). That a command with a time of its own first
lets that time pass is the model's choice (log 2). -/
def Obligations.InputsAndTimersMoveTheDrive : Prop :=
  (∀ (s u : State) (c : Instr) (line : Nat) (level : Bool), s.running → s.role = .drive → s.DriveSound →
    (c = .driveFaultInactive ∧ line = 2 ∧ level = false ∨ c = .brakeReleasedActive ∧ line = 0 ∧ level = true ∨
      c = .brakeReleasedInactive ∧ line = 0 ∧ level = false ∧ s.drive.state ≠ .moving ∨
      c = .stationaryActive ∧ line = 1 ∧ level = true ∨ c = .stationaryInactive ∧ line = 1 ∧ level = false) →
    s.input line = !level → s.filterPassed line = true → u = s.takeInput line level →
    ∃ t, exec c s = .next t ∧ State.inputTaken line level s t ∧
      (let check :=
        if c = .brakeReleasedActive ∧ (s.drive.state = .braked ∨ s.drive.state = .faulted) then some (sec 2)
        else if c = .brakeReleasedInactive then none
        else s.drive.brakeCheckTimer
       (s.drive.state = .faulted →
         t.drive =
           { s.drive with
             brakeCheckTimer := check
             faultClearTimer :=
               if u.driveFaultInput = false ∧ u.stationary = true ∧ u.brakeReleased = false then
                 some (s.drive.faultClearTimer.getD (sec 5))
               else none }) ∧
       (s.drive.state = .releasing → c = .brakeReleasedActive →
         t.drive = { s.drive with state := .moving, demand := s.drive.target, releaseTimer := none }) ∧
       (s.drive.state = .stopping → c = .stationaryActive →
         t.drive =
           { s.drive with
             state := .braked, stopTimer := none
             brakeCheckTimer := if s.brakeReleased then some (sec 2) else none }) ∧
       (s.drive.state ≠ .faulted → ¬ (s.drive.state = .releasing ∧ c = .brakeReleasedActive) →
         ¬ (s.drive.state = .stopping ∧ c = .stationaryActive) →
         t.drive = { s.drive with brakeCheckTimer := check })) ∧
      State.sameBut (.fi :: .filter :: .drive :: followers) s t) ∧
  (∀ s : State, s.resetHeld = false → s.role = .drive → s.DriveSound →
    (s.drive.state = .braked → s.settings.releaseConfirm ≤ s.drive.confirm →
      ∃ t, exec .releaseConfirmed s = .next t ∧
        t.drive =
          (if s.brakeReleased then
            { s.drive with
              state := .moving, demand := s.drive.target, confirm := 0, releaseTimer := none, brakeCheckTimer := none }
          else
            { s.drive with state := .releasing, confirm := 0, releaseTimer := some (sec 2), brakeCheckTimer := none }) ∧
        State.sameBut (.drive :: followers) s t) ∧
    (∀ n, s.drive.faultClearTimer = some n →
      ∃ t, exec .faultClearTimerExpiry s = .next t ∧
        t.drive =
          { (s.elapse n).drive with
            state := .braked, demand := .stop, confirm := 0, reasons := 0, releaseTimer := none, stopTimer := none
            faultClearTimer := none, brakeCheckTimer := if s.brakeReleased then some (sec 2) else none } ∧
        State.sameBut (.drive :: followers) (s.elapse n) t))

/-- The field outputs follow the state (R1, R54, R80, R114, R175). A drive's brake output is released, and FO0 sinks,
in RELEASING, MOVING and STOPPING; its demand stands on FO1 and FO2. In LOADING and CONFIG_FAULT no output sinks. The
votes of the roles and their reasons (R64, R95, R124, R140, R171), as the role sequencer states them: STOP while a
STOP condition holds, with the reasons of those that hold; else CREEP while a CREEP condition holds, with theirs; else
CRUISE, or NONE at a console, with none. The mark for skew found at the last mark taken is the model's (log 20). -/
def Obligations.OutputsAndVotesFollowTheState : Prop :=
  (∀ (s : State) (n : Nat),
    (s.mode.receiving = false → s.sinking = 0) ∧
    (s.mode.receiving = true →
      (s.role = .drive →
        s.sinking.getLsbD 0 = !(s.drive.state == .braked || s.drive.state == .faulted) ∧
        s.sinking.getLsbD 1 = (s.drive.demand == .creep) ∧ s.sinking.getLsbD 2 = (s.drive.demand == .cruise) ∧
        (3 ≤ n → s.sinking.getLsbD n = false)) ∧
      (s.role = .cabin →
        s.sinking.getLsbD 0 = (s.cabin.action == .openMove || s.cabin.action == .reverse) ∧
        s.sinking.getLsbD 1 = (s.cabin.action == .closeMove) ∧
        s.sinking.getLsbD 2 = (s.cabin.action == .openMove) ∧ (3 ≤ n → s.sinking.getLsbD n = false)) ∧
      (s.role = .platform →
        s.sinking.getLsbD 0 = s.platform.exitGate.commandOpen ∧
        s.sinking.getLsbD 1 = s.platform.entryGate.commandOpen ∧ (2 ≤ n → s.sinking.getLsbD n = false)) ∧
      (s.role = .mast ∨ s.role = .console ∨ s.role = .absent → s.sinking = 0))) ∧
  (∀ s : State,
    let o := s.ownStatement
    let votes := fun (stop creep : Reason → Prop) (otherwise : Level) =>
      ((∃ r, stop r) → o.vote = Level.stop.code ∧ ∀ r, hasReason o.reasons r = true ↔ stop r) ∧
      ((∀ r, ¬ stop r) → (∃ r, creep r) → o.vote = Level.creep.code ∧ ∀ r, hasReason o.reasons r = true ↔ creep r) ∧
      ((∀ r, ¬ stop r) → (∀ r, ¬ creep r) → o.vote = otherwise.code ∧ o.reasons = 0)
    let c := s.cabin
    let p := s.platform
    (s.role = .cabin →
      votes
        (fun r =>
          r = .dwell ∧ c.dwell = true ∨ r = .overload ∧ c.phase = .overloaded ∧ c.weighFault = false ∨
          r = .weighFault ∧ c.phase = .overloaded ∧ c.weighFault = true ∨ r = .door ∧ c.phase = .doorFault ∨
          r = .departUnready ∧ c.departPending = true ∨
          r = .door ∧ (c.phase = .opening ∨ c.phase = .opened) ∧ (c.marker = .close ∨ c.marker = .depart))
        (fun r => r = .door ∧ (c.phase = .closing ∨ c.phase = .weighing)) .cruise) ∧
    (s.role = .drive → s.drive.state = .faulted ∨ s.drive.skewFound = true →
      o.vote = Level.stop.code ∧
        ∀ r, hasReason o.reasons r = true ↔
          s.drive.state = .faulted ∧ hasReason s.drive.reasons r = true ∨ r = .skew ∧ s.drive.skewFound = true) ∧
    (s.role = .drive → s.drive.state ≠ .faulted → s.drive.skewFound = false →
      o.vote = Level.cruise.code ∧ o.reasons = 0) ∧
    (s.role = .platform →
      votes
        (fun r =>
          r = .zone ∧ (p.orderFault = true ∨ p.indexFault = true ∨ p.phaseFault = true) ∨
          r = .gate ∧ (p.exitGate.fault = true ∨ p.entryGate.fault = true) ∨
          r = .operatorStop ∧ p.stopFlag = true ∨ r = .departUnready ∧ ∃ w ∈ p.watch, w.unready = true)
        (fun _ => False) .cruise) ∧
    (s.role = .mast →
      votes
        (fun r =>
          r = .windSensor ∧ s.wind.sensorFault = true ∨ r = .windHold ∧ (s.wind.stage = .hold ∨ s.wind.stage = .shut))
        (fun r => r = .windClear ∧ s.wind.stage = .clear) .cruise) ∧
    (s.role = .console →
      votes
        (fun r => r = .operatorStop ∧ s.console.stop = true ∨ r = .evac ∧ s.console.stop = true ∧ s.console.evac = true)
        (fun r => r = .evac ∧ s.console.evac = true) .noLimit))

/-- The drive and the agreement record stay sound at every step: in particular the demand is STOP in every state but
MOVING, and the agreed level is never NONE (R49 to R51, R54 to R63). -/
def Obligations.EveryStepKeepsTheDriveAndTheAgreement : Prop :=
  ∀ s t : State, step s = .next t →
    (s.DriveSound → t.DriveSound) ∧ (s.AgreementSound → t.AgreementSound)

/-! ### The Cabin Replica (chapter 4) -/

/-- What readers of the replica see (R66, R67, R73, R74): an unused record reads 0, an AGED one UNKNOWN, any other as
stored; the occupied count counts what reads above 0 or UNKNOWN; the digest is the CRC of the 48 read occupancies,
UNKNOWN as FFh. At a mark every configured record ages by one up to 255 (R72), and no other field of it changes. Until
an image names the owners every record is AGED (R181). That a mark's frame takes its time first is the model's choice
(log 2, log 22). That a break after a frame's last byte leaves the frame as it is, is the model's choice (log 45). -/
def Obligations.ReplicaReadsAndAges : Prop :=
  (∀ (s : State) (x : CabinRecord),
    (x.owner = none → s.mode.receiving = true →
      s.aged x = false ∧ s.readOccupancy x = some 0 ∧ s.occupied x = false) ∧
    (x.owner = none → s.mode.receiving = false → s.aged x = true ∧ s.readOccupancy x = none) ∧
    (∀ o, x.owner = some o → ((s.entryAt o).silent = true ∨ x.lastRound = none) →
      s.readOccupancy x = none ∧ s.occupied x = true) ∧
    (∀ o, x.owner = some o → (s.entryAt o).silent = false → x.lastRound ≠ none →
      s.readOccupancy x = x.occupancy ∧ (s.occupied x = true ↔ x.occupancy ≠ some 0))) ∧
  (∀ s : State, s.TablesSound →
    s.occupiedCount = ((List.range 48).filter fun i => s.occupied (s.record i)).length ∧
    s.digest =
      crc16 ((List.range 48).map fun i =>
        match s.readOccupancy (s.record i) with
        | none => 0xFF
        | some n => BitVec.ofNat 8 n)) ∧
  (∀ (c : Instr) (s u : State) (number : Byte) (heard : Option (List Byte)), s.takesMark c u number heard →
    s.TablesSound →
    ∃ t, exec c s = .next t ∧
      ∀ i : Nat, t.record i =
        { s.record i with
          freshness := if (s.record i).owner = none then (s.record i).freshness
            else if (s.record i).freshness < 255 then (s.record i).freshness + 1
            else (s.record i).freshness })

/-! ### Cabin stations (chapter 5) -/

/-- Position notices at the cabin (R81 to R85): one with the own cabin index from the PLATFORM sets the last marker in
every phase; ARRIVE opens the door or passes, CLOSE stores the occupancy and closes an open door, DEPART lets a ready
cabin go and finds any other not ready, with its notice. A notice that fails one of the three conditions is ignored. A
position notice that carries the class INFO is acted on as one that carries ESSENTIAL (R168). An opening or a close that
begins is a door event, which restarts the converter (R92); nothing else does. The mark that says that the count of R85
runs is the model's (log 27); that the reception lets the frame's time pass is its choice (log 22). That a break after a
frame's last byte leaves the frame as it is, is the model's choice (log 45). -/
def Obligations.PositionNoticesMoveTheCabin : Prop :=
  ∀ (s₀ s : State) (bits : List LineBit) (f : Frame), s₀.atFrameEnd bits s →
    f.acceptedBy bits s → (f.header = classHeader .essential ∨ f.header = classHeader .info) → s.role = .cabin →
    s.CabinSound →
    let kind := byteAt f.body 0
    let value := ofTwoBytes (byteAt f.body 2) (byteAt f.body 3)
    let mine := s.roleAt f.sender.toNat = .platform ∧ s.cabinIndex = some (byteAt f.body 1).toNat
    let phase := s.cabin.phase
    let rests := phase = .away ∨ phase = .ready ∨ phase = .passing
    let opens := phase = .opening ∨ phase = .opened
    let leaves := phase = .ready ∨ phase = .passing
    let moves := mine ∧ (kind = NoticeKind.arrive.code ∧ rests ∧ (value = 0 ∨ value = 1) ∨
      kind = NoticeKind.close.code ∧ opens)
    ∃ t, exec (.frameReception bits) s₀ = .next t ∧
      (¬ mine ∨ (∀ k : NoticeKind, k = .arrive ∨ k = .turn ∨ k = .close ∨ k = .depart → kind ≠ k.code) →
        t.cabin = s.cabin) ∧
      (mine → kind = NoticeKind.turn.code → t.cabin = { s.cabin with marker := .turn }) ∧
      (mine → kind = NoticeKind.arrive.code →
        (¬ rests → t.cabin = { s.cabin with marker := .arrive }) ∧
        (rests → value ≠ 0 → value ≠ 1 →
          t.cabin = { s.cabin with marker := .arrive, phase := .passing, action := .idle }) ∧
        (rests → value = 0 ∨ value = 1 →
          t.cabin = Cabin.opensFrom s.openEnd { s.cabin with marker := .arrive })) ∧
      (mine → kind = NoticeKind.close.code →
        let occupancy := if value ≤ 63 then some value else none
        (¬ opens → t.cabin = { s.cabin with marker := .close, occupancy := occupancy }) ∧
        (opens →
          t.cabin =
            Cabin.closesFrom 1 s.closedEnd s.latched { s.cabin with marker := .close, occupancy := occupancy })) ∧
      (mine → kind = NoticeKind.depart.code →
        (leaves → t.cabin = { s.cabin with marker := .depart, phase := .away, action := .idle }) ∧
        (¬ leaves →
          t.cabin =
            { s.cabin with
              marker := .depart, departPending := true
              departCount := if phase = .away then 0 else s.cabin.departCount
              departCounting := phase == .away || s.cabin.departCounting } ∧
          (s.cabin.departPending = false → s.hasRoom →
            s.queuedAlso t .essential
              (noticeBody .doorFault s.cabinIndex DoorCause.departUnready.code.toNat phase.code.toNat)) ∧
          (s.cabin.departPending = true → t.line.queue = s.line.queue))) ∧
      (moves → s.converterRestarted t) ∧ (¬ moves → t.conv = s.conv) ∧
      State.sameBut (.idle :: .cabin :: .conv :: .capture :: queueParts ++ followers) s t

/-- The door's inputs (R86 to R90, R92): each acts in its own door action or phases, and OPEN_END and CLOSED_END
becoming active restart the converter in any phase. -/
def Obligations.DoorInputsMoveTheDoor : Prop :=
  ∀ (s : State) (c : Instr) (line : Nat) (level : Bool), s.running → s.role = .cabin → s.CabinSound →
    (c = .openEndActive level ∧ line = 0 ∨ c = .closedEndActive ∧ line = 1 ∧ level = true ∨
      c = .closedEndInactive ∧ line = 1 ∧ level = false ∨ c = .latchedActive ∧ line = 2 ∧ level = true ∨
      c = .latchedInactive ∧ line = 2 ∧ level = false ∨ c = .obstructionActive level ∧ line = 3) →
    s.input line = !level → s.filterPassed line = true →
    let weighing : Cabin :=
      { s.cabin with
        phase := .weighing, action := .idle, closeLimit := none, latchLimit := none, awaiting := true
        weighLimit := some (sec 3) }
    ∃ t, exec c s = .next t ∧ State.inputTaken line level s t ∧
      (c = .openEndActive true → s.cabin.action = .openMove →
        t.cabin = { s.cabin with phase := .opened, action := .idle, openLimit := none }) ∧
      (c = .openEndActive true → s.cabin.action = .reverse → s.cabin.attempts < 3 →
        t.cabin = { s.cabin with action := .recloseWait, openLimit := none, recloseDelay := some (sec 3) }) ∧
      (c = .openEndActive true → s.cabin.action = .reverse → s.cabin.attempts = 3 →
        t.cabin = s.cabin.faultedFrom ∧
          (s.hasRoom → s.queuedAlso t .essential
            (noticeBody .doorFault s.cabinIndex DoorCause.obstruction.code.toNat Phase.closing.code.toNat))) ∧
      (c = .closedEndActive → s.cabin.action = .closeMove → s.latched = false →
        t.cabin = { s.cabin with action := .latchWait, closeLimit := none, latchLimit := some (sec 1) }) ∧
      (c = .closedEndActive → s.cabin.action = .closeMove → s.latched = true → t.cabin = weighing) ∧
      (c = .latchedActive → s.cabin.action = .latchWait → t.cabin = weighing) ∧
      (c = .latchedInactive →
        (s.cabin.phase = .away ∨ s.cabin.phase = .passing ∨ s.cabin.phase = .weighing ∨ s.cabin.phase = .ready ∨
          s.cabin.phase = .overloaded →
          t.cabin = s.cabin.faultedFrom ∧
            (s.hasRoom → s.queuedAlso t .essential
              (noticeBody .doorFault s.cabinIndex DoorCause.latchLost.code.toNat s.cabin.phase.code.toNat))) ∧
        (s.cabin.phase = .opening ∨ s.cabin.phase = .opened ∨ s.cabin.phase = .closing ∨
          s.cabin.phase = .doorFault → t.cabin = s.cabin)) ∧
      (c = .obstructionActive true → s.cabin.action = .closeMove →
        (s.openEnd = false →
          t.cabin = { s.cabin with action := .reverse, closeLimit := none, openLimit := some (sec 6) }) ∧
        (s.openEnd = true → s.cabin.attempts < 3 →
          t.cabin = { s.cabin with action := .recloseWait, closeLimit := none, recloseDelay := some (sec 3) }) ∧
        (s.openEnd = true → s.cabin.attempts = 3 → t.cabin = s.cabin.faultedFrom)) ∧
      (level = false → c ≠ .latchedInactive → t.cabin = s.cabin) ∧
      ((c = .openEndActive true → s.cabin.action ≠ .openMove ∧ s.cabin.action ≠ .reverse) →
        (c = .closedEndActive → s.cabin.action ≠ .closeMove) → (c = .latchedActive → s.cabin.action ≠ .latchWait) →
        (c = .obstructionActive true → s.cabin.action ≠ .closeMove) → level = true → t.cabin = s.cabin) ∧
      ((c = .openEndActive true ∨ c = .closedEndActive ∨ c = .latchedActive ∧ s.cabin.action = .latchWait ∨
          c = .obstructionActive true ∧ s.cabin.action = .closeMove) →
        ∀ m, s.conv.mode = some m →
          t.conv.phase = .zeroing ∧ t.conv.timer = some (zeroingTime m) ∧ t.conv.record = s.conv.record) ∧
      (¬ (c = .openEndActive true ∨ c = .closedEndActive ∨ c = .latchedActive ∧ s.cabin.action = .latchWait ∨
          c = .obstructionActive true ∧ s.cabin.action = .closeMove) → t.conv = s.conv) ∧
      State.sameBut (.fi :: .filter :: .cabin :: .conv :: queueParts ++ followers) s t

/-- The cabin's timers (R86 to R89, R91, R93, R100): the limits of a door action end in DOOR_FAULT with their cause and
its notice; the re-close delay starts the next movement, or runs again while the door is obstructed; the weighing limit
ends in OVERLOADED with WEIGH_FAULT; the dwell timer ends the dwell, with its notice. CALL_KEY offers its notice and
changes nothing else (R101); the depart mark count ends at 2 (R85), and clears the mark in AWAY and PASSING only. That a
command with a time of its own first lets that time pass is the model's choice (log 2). That the mark count of R85 runs
since a DEPART taken in AWAY is kept in a mark of the model's (log 27); that the weighing limit clears the
awaiting-result mark is its choice (log 39), and so is that CALL_KEY must have been inactive and active again, 5 ms
each, to count a second time (R2, log 5). A frame heard takes its time first, by the model's choice (log 22). That a
break after a frame's last byte leaves the frame as it is, is the model's choice (log 45). -/
def Obligations.CabinTimersCallsAndCounts : Prop :=
  (∀ (s : State) (n : Nat), s.resetHeld = false → s.CabinSound →
    let u := s.elapse n
    (∀ (c : Instr) (cause : DoorCause),
      (c = .openLimitExpiry ∧ s.cabin.openLimit = some n ∧ cause = .openLimit ∨
        c = .closeLimitExpiry ∧ s.cabin.closeLimit = some n ∧ cause = .closeLimit ∨
        c = .latchLimitExpiry ∧ s.cabin.latchLimit = some n ∧ cause = .latchLimit) →
      ∃ t, exec c s = .next t ∧
        t.cabin = s.cabin.faultedFrom ∧
        (s.hasRoom → u.queuedAlso t .essential
          (noticeBody .doorFault s.cabinIndex cause.code.toNat s.cabin.phase.code.toNat)) ∧
        State.sameBut (.cabin :: queueParts ++ followers) u t) ∧
    (s.cabin.recloseDelay = some n →
      ∃ t, exec .recloseDelayExpiry s = .next t ∧
        (s.obstruction = true → t.cabin = { u.cabin with recloseDelay := some (sec 3) } ∧ t.conv = u.conv) ∧
        (s.obstruction = false →
          t.cabin = u.cabin.closesFrom (s.cabin.attempts + 1) s.closedEnd s.latched ∧
          u.converterRestarted t) ∧
        State.sameBut (.cabin :: .conv :: followers) u t) ∧
    (s.cabin.weighLimit = some n →
      ∃ t, exec .weighingLimitExpiry s = .next t ∧
        t.cabin =
          { u.cabin with phase := .overloaded, weighFault := true, load := none, awaiting := false, weighLimit := none } ∧
        State.sameBut (.cabin :: followers) u t) ∧
    (s.cabin.dwellTimer = some n →
      ∃ t, exec .dwellTimerExpiry s = .next t ∧ t.cabin = { u.cabin with dwell := false, dwellTimer := none } ∧
        (s.hasRoom → u.queuedAlso t .info (noticeBody .dwellExpired s.cabinIndex 0 0)) ∧
        State.sameBut (.cabin :: queueParts ++ followers) u t)) ∧
  (∀ s : State, s.role = .cabin →
    (s.running → s.filterPassed 4 = true →
      ∃ t, exec .callKeyActive s = .next t ∧ State.pulseTaken 4 s t ∧
        (s.hasRoom → s.queuedAlso t .essential
          (noticeBody .cabinCall s.cabinIndex s.cabin.phase.code.toNat
            (match s.cabin.occupancy with
              | none => 255
              | some n => n))) ∧
        State.sameBut (.filter :: queueParts ++ followers) s t) ∧
    (s.resetHeld = false → s.cabin.departCounting = true → s.cabin.departCount = 2 →
      ∃ t, exec .departMarkCountEnd s = .next t ∧
        t.cabin =
          (if s.cabin.phase = .away ∨ s.cabin.phase = .passing then
            { s.cabin with departPending := false, departCounting := false }
          else { s.cabin with departCounting := false }) ∧
        State.sameBut (.cabin :: followers) s t) ∧
    (∀ (c : Instr) (u : State) (number : Byte) (heard : Option (List Byte)), s.takesMark c u number heard →
      ∃ t, exec c s = .next t ∧
        (s.cabin.departCounting = false → t.cabin = u.cabin) ∧
        (s.cabin.departCounting = true → s.cabin.departCount = 0 → t.cabin = { u.cabin with departCount := 1 }) ∧
        (s.cabin.departCounting = true → s.cabin.departCount = 1 →
          t.cabin =
            { u.cabin with
              departCount := 2, departCounting := false
              departPending :=
                if s.cabin.phase = .away ∨ s.cabin.phase = .passing then false else s.cabin.departPending })))

/-- A LOAD result judged by a cabin that awaits one (R93, R94): overrange, or negative above 10 kg, is WEIGH_FAULT; a
load within the limit brings READY, or AWAY at once where the depart-pending mark is set (R85), a load above it
OVERLOADED; an UNKNOWN occupancy of a cabin under 40 kg becomes 0; COUNT_DOUBT and WEIGHED follow in that order. A
result that no cabin awaits is not used. -/
def Obligations.WeighingIsJudged : Prop :=
  (∀ (s : State) (r : Result), (s.cabin.phase ≠ .weighing ∨ s.cabin.awaiting = false ∨ r.mode ≠ .load) →
    s.deliverLoad r = s) ∧
  ∀ (s : State) (r : Result), s.CabinSound → s.cabin.phase = .weighing → s.cabin.awaiting = true → r.mode = .load →
    let t := s.deliverLoad r
    let load := if r.polarity = .negative then 0 else r.count / 4
    let fails := r.overrange = true ∨ (r.polarity = .negative ∧ 10 < r.count / 4)
    let occupancy := if s.cabin.occupancy = none ∧ load < 40 then some 0 else s.cabin.occupancy
    let doubt := fun n : Nat => n + 3 < (load + 40) / 80 ∨ (load + 40) / 80 + 3 < n
    let entered := if load ≤ s.settings.loadLimit then Phase.ready else Phase.overloaded
    let judged : Cabin := { s.cabin with awaiting := false, weighLimit := none }
    (fails →
      t.cabin = { judged with phase := .overloaded, weighFault := true, load := none } ∧ State.sameBut [.cabin] s t) ∧
    (¬ fails →
      (load ≤ s.settings.loadLimit → s.cabin.departPending = false →
        t.cabin = { judged with phase := .ready, load := some load, occupancy := occupancy }) ∧
      (load ≤ s.settings.loadLimit → s.cabin.departPending = true →
        t.cabin =
          { judged with
            phase := .away, load := some load, occupancy := occupancy, departPending := false }) ∧
      (s.settings.loadLimit < load →
        t.cabin = { judged with phase := .overloaded, weighFault := false, load := some load, occupancy := occupancy }) ∧
      (s.hasRoom → s.line.queue.length < 7 →
        t.line.queue =
          s.line.queue ++
            (match occupancy with
              | none => []
              | some n =>
                if doubt n then
                  [TxEntry.fresh .info (noticeBody .countDoubt s.cabinIndex n ((load + 40) / 80)) none]
                else []) ++
            [TxEntry.fresh .info (noticeBody .weighed s.cabinIndex load entered.code.toNat) none]) ∧
      State.sameBut (.cabin :: queueParts) s t)

/-- Asks taken at the cabin (R96 to R99): each is answered, and carried out when accepted; every other kind code,
whether it names an ask kind or none, is refused with WRONG_ROLE (R165). An ASK that names another station changes
nothing at a cabin. An opening or a close that begins is a door event, which restarts the converter (R92); nothing else
does. That the reception lets the frame's time pass is the model's choice (log 22). That a break after a frame's last
byte leaves the frame as it is, is the model's choice (log 45). -/
def Obligations.CabinAnswersItsAsks : Prop :=
  ∀ (s₀ s : State) (bits : List LineBit) (f : Frame), s₀.atFrameEnd bits s →
    f.acceptedBy bits s → f.header = classHeader .ask → s.role = .cabin → s.CabinSound →
    let code := byteAt f.body 1
    let target := (byteAt f.body 0).toNat
    let phase := s.cabin.phase
    let open_ := phase = .opening ∨ phase = .opened
    let before := s.cabin.marker ≠ .close ∧ s.cabin.marker ≠ .depart
    let held := s.mode = .joined ∧ s.agreement.level = .stop
    let moves := code = AskKind.doorOpen.code ∧ phase ≠ .away ∧ ¬ open_ ∧ (before ∨ held) ∨
      code = AskKind.doorClose.code ∧ (open_ ∨ phase = .doorFault)
    (target ≠ s.station → ∃ t, exec (.frameReception bits) s₀ = .next t ∧
      State.sameBut (.idle :: .capture :: statusParts ++ followers) s t) ∧
    (target = s.station → ∃ t, exec (.frameReception bits) s₀ = .next t ∧ ∃ answer,
      (s.hasRoom →
        t.line.queue = s.line.queue ++ [TxEntry.fresh .reply (replyBody f.sender (byteAt f.body 2) answer) none]) ∧
      (code = AskKind.doorOpen.code →
        (phase = .away → answer = .refused .notInZone ∧ t.cabin = s.cabin) ∧
        (open_ → answer = .accepted ∧ t.cabin = s.cabin) ∧
        (phase ≠ .away → ¬ open_ → before ∨ held →
          answer = .accepted ∧ t.cabin = s.cabin.opensFrom s.openEnd) ∧
        (phase ≠ .away → ¬ open_ → ¬ before → ¬ held → answer = .refused .tooLate ∧ t.cabin = s.cabin)) ∧
      (code = AskKind.doorClose.code →
        (open_ ∨ phase = .doorFault →
          answer = .accepted ∧ t.cabin = s.cabin.closesFrom 1 s.closedEnd s.latched) ∧
        (phase = .closing → answer = .accepted ∧ t.cabin = s.cabin) ∧
        (¬ open_ → phase ≠ .doorFault → phase ≠ .closing → answer = .refused .notApplicable ∧ t.cabin = s.cabin)) ∧
      (code = AskKind.dwell.code →
        (open_ ∧ before → answer = .accepted ∧
          t.cabin = { s.cabin with dwell := true, dwellTimer := some (sec 240) }) ∧
        (¬ (open_ ∧ before) → answer = .refused .tooLate ∧ t.cabin = s.cabin)) ∧
      (code = AskKind.dwellEnd.code →
        (s.cabin.dwell = true → answer = .accepted ∧ t.cabin = { s.cabin with dwell := false, dwellTimer := none }) ∧
        (s.cabin.dwell = false → answer = .refused .notApplicable ∧ t.cabin = s.cabin)) ∧
      ((∀ k : AskKind, k = .doorOpen ∨ k = .doorClose ∨ k = .dwell ∨ k = .dwellEnd → code ≠ k.code) →
        answer = .refused .wrongRole ∧ t.cabin = s.cabin) ∧
      (moves → s.converterRestarted t) ∧ (¬ moves → t.conv = s.conv) ∧
      State.sameBut (.idle :: .cabin :: .conv :: .capture :: queueParts ++ followers) s t)

/-- The cabin's own record stays sound at every step (chapter 5): phase and door action fit, each timer runs in its
own door action or phase, a dwell holds only an open door, and at most three movements make a close. -/
def Obligations.EveryStepKeepsTheCabin : Prop :=
  ∀ s t : State, s.CabinSound → step s = .next t → t.CabinSound

/-! ### The boarding platform (chapter 6) -/

/-- The markers (R105 to R110, R122): ARRIVE appends the cabin the index reader names, with the mode of R107 and the
occupancy its record shows; TURN and CLOSE move the oldest cabin of their segment on; DEPART removes a front entry in
CLOSING, which joins the departure watch. Each offers its notice. One that finds no cabin, or an ARRIVE that cannot be
taken, raises its zone fault instead. While rebuild pending is set no marker is taken. A marker counts when its input
has had the time to be steady (R2, log 5). The cabin byte of a fault notice is the model's reading (log 15), the mark
of a due choice the model's own (log 25). -/
def Obligations.MarkersMoveTheZone : Prop :=
  ∀ (s : State) (index : BitVec 6) (valid : Bool), s.running → s.role = .platform →
    let p := s.platform.withoutGates
    let parts := .filter :: .platform :: queueParts ++ followers
    let acts := fun (c : Instr) (line : Nat) (result : State → Prop) =>
      s.filterPassed line = true →
        ∃ t, exec c s = .next t ∧ State.pulseTaken line s t ∧ result t ∧ State.sameBut parts s t
    let tells := fun (t : State) (kind : NoticeKind) (cabin : Option Nat) (v1 v2 : Nat) =>
      s.hasRoom → s.queuedAlso t .essential (noticeBody kind cabin v1 v2)
    let moved := fun (seg : Segment) (e : ZoneEntry) =>
      { e with segment := seg, settle := true, mismatch := 0, fallback := Fallback.unused, choiceDue := false }
    let noOrder := fun (c : Instr) (line : Nat) (m : Marker) =>
      acts c line fun t =>
        t.platform.withoutGates = { p with orderFault := true } ∧
          tells t .zoneFault none ZoneFaultKind.order.code.toNat m.code.toNat
    (s.platform.rebuildPending = true →
      ∀ (c : Instr) (line : Nat),
        (c = .mkArrive index valid ∧ line = 0 ∨ c = .mkTurn ∧ line = 1 ∨ c = .mkClose ∧ line = 2 ∨
          c = .mkDepart ∧ line = 3) →
        acts c line fun t => State.sameBut (.filter :: followers) s t) ∧
    (s.platform.rebuildPending = false →
      (valid = false ∨ 47 < index.toNat ∨ s.ownerOf index.toNat = none →
        acts (.mkArrive index valid) 0 fun t => t.platform.withoutGates = { p with indexFault := true } ∧
          tells t .zoneFault none ZoneFaultKind.index.code.toNat (if valid then index.toNat else 255)) ∧
      (∀ owner, valid = true → index.toNat ≤ 47 → s.ownerOf index.toNat = some owner →
        ((∃ e ∈ s.platform.zone, e.cabin = index.toNat) ∨ s.platform.zone.length = 3 →
          acts (.mkArrive index valid) 0 fun t => t.platform.withoutGates = { p with orderFault := true } ∧
            tells t .zoneFault (some index.toNat) ZoneFaultKind.order.code.toNat Marker.arrive.code.toNat) ∧
        ((∀ e ∈ s.platform.zone, e.cabin ≠ index.toNat) → s.platform.zone.length < 3 →
          let aboard := s.readOccupancy (s.record index.toNat)
          let mode : ArrivalMode :=
            if s.platform.unloading then (if aboard = some 0 then .pass else .exitOnly)
            else if aboard = none then .exitOnly
            else if s.platform.boardingOpen = false ∧ aboard = some 0 then .pass
            else .normal
          acts (.mkArrive index valid) 0 fun t =>
            t.platform.withoutGates =
              { p with
                zone := p.zone ++
                  [⟨index.toNat, owner, .exit, mode, aboard, 0, 0, false, false, true, 0, .unused, false⟩] } ∧
            tells t .arrive (some index.toNat) mode.code.toNat (aboard.getD 255))) ∧
      ((∀ x ∈ s.platform.zone, x.segment ≠ .exit) → noOrder .mkTurn 1 .turn) ∧
      ((∀ x ∈ s.platform.zone, x.segment ≠ .entry) → noOrder .mkClose 2 .close) ∧
      (∀ (before after : List ZoneEntry) (e : ZoneEntry), s.platform.zone = before ++ e :: after →
        (e.segment = .exit → (∀ x ∈ before, x.segment ≠ .exit) →
          acts .mkTurn 1 fun t =>
            t.platform.withoutGates = { p with zone := before ++ moved .entry e :: after } ∧
            tells t .turn (some e.cabin) 0 0) ∧
        (e.segment = .entry → (∀ x ∈ before, x.segment ≠ .entry) →
          let carried : Option Nat := e.aboard.map fun n => min 63 (n + e.boarded - e.alighted)
          let clamped := ∃ n, e.aboard = some n ∧ (n + e.boarded < e.alighted ∨ 63 < n + e.boarded - e.alighted)
          acts .mkClose 2 fun t =>
            t.platform.withoutGates = { p with zone := before ++ moved .closing e :: after } ∧
            (¬ clamped → tells t .close (some e.cabin) (carried.getD 255) 0) ∧
            (clamped → s.hasRoom → s.line.queue.length < 7 →
              t.line.queue =
                s.line.queue ++
                  [TxEntry.fresh .essential (noticeBody .close (some e.cabin) (carried.getD 255) 0) none,
                    TxEntry.fresh .info
                      (noticeBody .countDoubt (some e.cabin) (carried.getD 255) (e.aboard.getD 255)) none]))) ∧
      ((∀ e, s.platform.zone.head? = some e → e.segment ≠ .closing) → noOrder .mkDepart 3 .depart) ∧
      (∀ e rest, s.platform.zone = e :: rest → e.segment = .closing →
        acts .mkDepart 3 fun t => t.platform.zone = rest ∧
          (⟨e.cabin, 0, false⟩ ∈ t.platform.watch ∧
            (∀ w, w.cabin ≠ e.cabin → (w ∈ t.platform.watch ↔ w ∈ s.platform.watch)) ∧
            ∀ w ∈ t.platform.watch, w.cabin = e.cabin → w = ⟨e.cabin, 0, false⟩) ∧
          t.platform.withoutGates = { p with zone := rest, watch := t.platform.watch } ∧
          tells t .depart (some e.cabin) 0 0))

/-- Riders and gates (R113 to R115). A beam counts for the oldest cabin of its segment, between 0 and 63, and for none
where there is none. A gate whose position comes to match its command has no timer and no fault; one that stops
matching, and is not in fault, has 3 s; a gate whose timer expires is in fault, with its notice. While rebuild pending is
set no crossing is counted. That a command with a time of its own first lets that time pass is the model's choice (log
2), and so is that a beam must have been inactive and active again, 5 ms each, to count a second time, a beam that comes
while rebuild pending is set among them (R2, log 5). -/
def Obligations.BeamsCountAndGatesAreWatched : Prop :=
  ∀ s : State, s.role = .platform →
    let p := s.platform.withoutGates
    (∀ beam : Beam, s.running → s.platform.rebuildPending = false →
      let seg := if beam = .exitOut ∨ beam = .exitIn then Segment.exit else Segment.entry
      let line := if beam = .exitOut then 11 else if beam = .exitIn then 12 else if beam = .entryIn then 13 else 14
      s.filterPassed line = true →
      ∃ t, exec (.beamCrossing beam) s = .next t ∧ State.pulseTaken line s t ∧
        ((∀ x ∈ s.platform.zone, x.segment ≠ seg) → t.platform.withoutGates = p) ∧
        (∀ (before after : List ZoneEntry) (e : ZoneEntry), s.platform.zone = before ++ e :: after → e.segment = seg →
          (∀ x ∈ before, x.segment ≠ seg) → e.alighted ≤ 63 → e.boarded ≤ 63 →
          t.platform.withoutGates =
            { p with
              zone := before ++
                { e with
                  alighted :=
                    if beam = .exitOut then min 63 (e.alighted + 1)
                    else if beam = .exitIn then e.alighted - 1
                    else e.alighted
                  boarded :=
                    if beam = .entryIn then min 63 (e.boarded + 1)
                    else if beam = .entryOut then e.boarded - 1
                    else e.boarded } :: after }) ∧
        State.sameBut (.filter :: .platform :: followers) s t) ∧
    (∀ beam : Beam, s.running → s.platform.rebuildPending = true →
      let line := if beam = .exitOut then 11 else if beam = .exitIn then 12 else if beam = .entryIn then 13 else 14
      s.filterPassed line = true →
      ∃ t, exec (.beamCrossing beam) s = .next t ∧ State.pulseTaken line s t ∧
        State.sameBut (.filter :: followers) s t) ∧
    (∀ (gate : GateId) (closed : Bool), s.running → s.FollowersSound →
      let line := if gate = .exit then 15 else 16
      let old := s.platform.gate gate
      s.input line = !closed → s.filterPassed line = true →
      ∃ t, exec (.gatePositionChange gate closed) s = .next t ∧ State.inputTaken line closed s t ∧
        (closed = !old.commandOpen → t.platform.gate gate = ⟨old.commandOpen, false, none⟩) ∧
        (closed = old.commandOpen → old.fault = false →
          t.platform.gate gate = ⟨old.commandOpen, false, some (sec 3)⟩) ∧
        (closed = old.commandOpen → old.fault = true → t.platform.gate gate = ⟨old.commandOpen, true, none⟩) ∧
        (∀ other, other ≠ gate → t.platform.gate other = s.platform.gate other) ∧
        State.sameBut (.fi :: .filter :: followers) s t) ∧
    (∀ (gate : GateId) (n : Nat), s.resetHeld = false → s.FollowersSound →
      let old := s.platform.gate gate
      old.timer = some n →
      let u := s.elapse n
      ∃ t, exec (.gateTravelExpiry gate) s = .next t ∧
        t.platform.gate gate = ⟨old.commandOpen, true, none⟩ ∧
        (∀ other, other ≠ gate → t.platform.gate other = u.platform.gate other) ∧
        (s.hasRoom → u.queuedAlso t .essential (noticeBody .gateFault none gate.code.toNat old.commandOpen.toNat)) ∧
        State.sameBut (queueParts ++ followers) u t)

/-- On a PLATFORM the gate commands are those of R114, in every state in which they follow what has changed
(`FollowersSound`, which every step keeps: `GatesAndOwnStateFollow`): the exit gate OPEN while the EXIT cabin, not in
mode PASS, shows OPEN and is not AGED; the entry gate OPEN only while the ENTRY cabin shows OPEN in mode NORMAL and is
not AGED, boarding is open, and its counted occupancy is known and below the capacity. Boarding
(R117): an unloading run is in force when a mast shows CLEAR or a console its evac flag; a mast bars boarding that is
SILENT, has no last role body, names no stage, or shows HOLD, CLEAR or SHUT. A SILENT mast, or one without a role
body, counts as HOLD only (log 26). The phases that match an entry, and the fallback ask for one that does not (R118,
R120). -/
def Obligations.GatesBoardingAndPhasesByTheTables : Prop :=
  (∀ s : State, s.role = .platform → s.FollowersSound →
    let shows := fun (e : ZoneEntry) => (s.record e.cabin).phase = .opened ∧ s.aged (s.record e.cabin) = false
    (s.platform.exitGate.commandOpen = true ↔
      ∃ (before after : List ZoneEntry) (e : ZoneEntry), s.platform.zone = before ++ e :: after ∧ e.segment = .exit ∧
        (∀ x ∈ before, x.segment ≠ .exit) ∧ e.mode ≠ .pass ∧ shows e) ∧
    (s.platform.entryGate.commandOpen = true ↔
      ∃ (before after : List ZoneEntry) (e : ZoneEntry) (n : Nat), s.platform.zone = before ++ e :: after ∧
        e.segment = .entry ∧ (∀ x ∈ before, x.segment ≠ .entry) ∧ e.mode = .normal ∧ shows e ∧
        s.platform.boardingOpen = true ∧ e.aboard = some n ∧ n + e.boarded - e.alighted < s.settings.capacity)) ∧
  (∀ s : State,
    let stage := fun (e : RosterEntry) => e.last.map fun b => byteAt b.fields 0
    (s.unloadingRun = true ↔ ∃ e ∈ s.roster,
      (e.role = .mast ∧ e.silent = false ∧ stage e = some Stage.clear.code) ∨
      (e.role = .console ∧ ∃ b, e.last = some b ∧ (byteAt b.fields 0).getLsbD 1 = true)) ∧
    (s.windBars = true ↔ ∃ e ∈ s.roster, e.role = .mast ∧
      (e.silent = true ∨ (stage e ≠ some Stage.calm.code ∧ stage e ≠ some Stage.watch.code)))) ∧
  (∀ (e : ZoneEntry) (phase : Phase),
    let opens := phase = .opening ∨ phase = .opened
    let closes := phase = .closing ∨ phase = .weighing ∨ phase = .ready
    (e.mode = .pass →
      (e.matching phase = true ↔ phase = .passing ∨ (e.openedByAsk = true ∧ opens)) ∧
      e.fallbackFor phase = if phase = .opening ∨ phase = .opened then some .doorClose else none) ∧
    (e.mode ≠ .pass → e.segment = .closing →
      (e.matching phase = true ↔ closes ∨ (e.openedByAsk = true ∧ opens)) ∧
      e.fallbackFor phase =
        if phase = .opening ∨ phase = .opened ∨ phase = .doorFault then some .doorClose else none) ∧
    (e.mode ≠ .pass → e.segment ≠ .closing →
      (e.matching phase = true ↔ opens ∨ (e.closedByAsk = true ∧ closes)) ∧ e.fallbackFor phase = some .doorOpen))

/-- Operator keys of the platform and of the console (R116, R117, R123, R169): each acts when it becomes active, its input
having had the time to be steady (R2, log 5). The argument 0 of a dwell key's ask is the model's choice (log 36). -/
def Obligations.OperatorKeysAct : Prop :=
  ∀ s : State, s.running →
    let acts := fun (c : Instr) (line : Nat) (parts : List Part) (result : State → Prop) =>
      s.filterPassed line = true →
        ∃ t, exec c s = .next t ∧ State.pulseTaken line s t ∧ result t ∧
          State.sameBut (.filter :: parts ++ followers) s t
    (s.role = .platform →
      let p := s.platform.withoutGates
      let entryCabin := fun (e : ZoneEntry) => ∃ before after : List ZoneEntry,
        s.platform.zone = before ++ e :: after ∧ e.segment = .entry ∧ ∀ x ∈ before, x.segment ≠ .entry
      acts .keyStop 19 [.platform] (fun t => t.platform.withoutGates = { p with stopFlag := true }) ∧
      acts .keyResume 20 [.platform] (fun t => t.platform.withoutGates = { p with stopFlag := false }) ∧
      (∀ on : Bool, acts (if on then .keyBoardOpen else .keyBoardShut) (if on then 17 else 18) [.platform] fun t =>
        (s.platform.boardingState = on → t.platform.withoutGates = p) ∧
        (s.platform.boardingState ≠ on →
          t.platform.withoutGates =
            { p with
              boardingState := on, unloading := s.unloadingRun
              boardingOpen := on && !s.windBars && !s.unloadingRun })) ∧
      acts .keyZoneClear 23 [.platform] (fun t =>
        t.platform.withoutGates = { p with zone := [], watch := [], orderFault := false, indexFault := false }) ∧
      (∀ (c : Instr) (line : Nat), (c = .keyDwell ∧ line = 21 ∨ c = .keyDwellEnd ∧ line = 22) →
        (∀ x ∈ s.platform.zone, x.segment ≠ .entry) →
        acts c line [.flags, .attention, .renewal] fun t => State.flagged .noTarget s t) ∧
      (∀ (c : Instr) (line : Nat) (kind : AskKind) (e : ZoneEntry) (n : Nat),
        (c = .keyDwell ∧ line = 21 ∧ kind = .dwell ∨ c = .keyDwellEnd ∧ line = 22 ∧ kind = .dwellEnd) → entryCabin e →
        e.owner ≠ s.station → s.roleAt e.owner ≠ .absent → s.asks.entries.findIdx? (fun x => x.state == .free) = some n →
        s.hasRoom →
        acts c line [.asks, .queue] fun t => ∃ tag,
          t.asks.entries[n]? = some ⟨.queued, .key, kind, e.owner, 0, tag, 0, none, none⟩ ∧
          s.queuedAlso t .ask (askBody e.owner kind tag 0))) ∧
    (s.role = .console →
      acts .consoleKeyStop 0 [.console] (fun t => t.console = { s.console with stop := true }) ∧
      acts .consoleKeyResume 1 [.console] (fun t => t.console = { s.console with stop := false }) ∧
      acts .keyEvac 2 [.console] (fun t => t.console = { s.console with evac := true }) ∧
      acts .keyEvacEnd 3 [.console] (fun t => t.console = { s.console with evac := false }))

/-- The platform at a mark (R111, R117, R119, R122, R125). A watched cabin whose record shows AWAY and is not AGED
leaves the departure watch; any other counts, and is unready at 2. Boarding is worked out from the live fields of this
mark. While JOINED with rebuild pending the zone is rebuilt from the replica, each entry with nobody counted aboard,
alighted or boarded; a tie leaves it empty and raises an ORDER fault with its notice, code 5 REBUILD (R125); otherwise
each entry loses its settle mark, or is compared. The fallback ask is chosen at the mark that brings the mismatch count
to 2, or offered again while it is DUE (R120): taken, it is PENDING; with the table full DUE; USED already, a PHASE
fault is raised; and where no ask is called for any more DUE goes back to NONE. A PHASE fault is cleared at a mark at
which no entry was skipped or mismatched (R122), unless a fallback ask that ends at this mark raises it (log 6); the
mark for one raised in this step is the model's (log 25). That a command with a time of its own first lets that time
pass is the model's choice (log 2, log 22). That a break after a frame's last byte leaves the frame as it is, is the
model's choice (log 45). -/
def Obligations.PlatformWorksAtTheMark : Prop :=
  ∀ (c : Instr) (s u : State) (number : Byte) (heard : Option (List Byte)), s.takesMark c u number heard →
    s.role = .platform → s.ZoneSound → s.TablesSound → (s.platform.zone.map ZoneEntry.owner).Nodup →
    ∃ t, exec c s = .next t ∧
      (let phase := fun i : Nat => (s.record i).phase
       let aged := fun i : Nat => t.aged (s.record i)
       t.platform.watch =
         ((s.platform.watch.filter fun w => !(phase w.cabin == .away && !aged w.cabin)).map fun w =>
           { w with marks := min 2 (w.marks + 1), unready := w.unready || decide (1 ≤ w.marks) }) ∧
       t.platform.unloading = t.unloadingRun ∧
       t.platform.boardingOpen = (s.platform.boardingState && !t.windBars && !t.unloadingRun) ∧
       (t.mode ≠ .joined → ∀ i : Nat,
         (t.platform.zone[i]?).map (fun e => (e.settle, e.mismatch)) =
           (s.platform.zone[i]?).map fun e => (e.settle, e.mismatch)) ∧
       (t.mode = .joined → s.platform.rebuildPending = false → ∀ (i : Nat) (e : ZoneEntry),
         s.platform.zone[i]? = some e →
         ∃ e', t.platform.zone[i]? = some e' ∧ e'.cabin = e.cabin ∧ e'.segment = e.segment ∧ e'.mode = e.mode ∧
           e'.settle = false ∧
           e'.mismatch =
             (if e.settle then e.mismatch else if e.matching (phase e.cabin) then 0 else min 2 (e.mismatch + 1))) ∧
       (t.mode = .joined → s.platform.rebuildPending = true →
         t.platform.rebuildPending = false ∧
         (let found := fun m : Marker => (List.range 48).filter fun i =>
            (s.record i).owner.isSome && phase i != .away && (s.record i).marker == m
          let entry := fun (seg : Segment) (i : Nat) =>
            ({ cabin := i, owner := (s.record i).owner.getD 0, segment := seg
               mode := if phase i = .passing then .pass else .exitOnly
               aboard := none, alighted := 0, boarded := 0, closedByAsk := false, openedByAsk := false
               settle := true, mismatch := 0, fallback := .unused, choiceDue := false } : ZoneEntry)
          let single := (found .close).length ≤ 1 ∧ (found .turn).length ≤ 1 ∧ (found .arrive).length ≤ 1
          (single → t.platform.zone =
            (found .close).map (entry .closing) ++ (found .turn).map (entry .entry) ++
              (found .arrive).map (entry .exit)) ∧
          (¬ single → t.platform.zone = [] ∧ t.platform.orderFault = true ∧
            (s.line.queue.length < 4 →
              TxEntry.fresh .essential (noticeBody .zoneFault none ZoneFaultKind.order.code.toNat 5) none ∈
                t.line.queue)))) ∧
       (let fits := fun e : ZoneEntry => e.matching (phase e.cabin) = true
        let chosen := fun e : ZoneEntry =>
          e.settle = false ∧ ¬ fits e ∧ (e.mismatch = 1 ∨ 2 ≤ e.mismatch ∧ e.fallback = .due)
        let called := fun e : ZoneEntry => e.fallbackFor (phase e.cabin)
        let free := s.asks.entries.findIdx? fun x => x.state != .queued && x.state != .waiting
        s.platform.phaseFresh = false →
        (∀ e ∈ s.platform.zone, ∀ k n, e.fallback = .pending k n →
          ∃ a, s.asks.entries[n]? = some a ∧ (a.state = .queued ∨ a.state = .waiting)) →
        (∀ a ∈ s.asks.entries, ¬ (a.origin = .fallback ∧ a.state = .waiting ∧ 1 ≤ a.marks)) →
        (t.mode ≠ .joined → t.platform.phaseFault = s.platform.phaseFault) ∧
        (t.mode = .joined → s.platform.rebuildPending = true → t.platform.phaseFault = false) ∧
        (t.mode = .joined → s.platform.rebuildPending = false →
          ((∀ e ∈ s.platform.zone, e.settle = false ∧ fits e) → t.platform.phaseFault = false) ∧
          ((∃ e ∈ s.platform.zone, e.settle = true ∨ ¬ fits e) → s.platform.phaseFault = true →
            t.platform.phaseFault = true) ∧
          ∀ (i : Nat) (e : ZoneEntry), s.platform.zone[i]? = some e → ∃ e', t.platform.zone[i]? = some e' ∧
            (e.settle = true → e'.fallback = e.fallback) ∧
            (e.settle = false → fits e → e'.fallback = if e.fallback = .due then .unused else e.fallback) ∧
            (e.settle = false → ¬ fits e → ¬ chosen e → e'.fallback = e.fallback) ∧
            (chosen e → called e = none → e'.fallback = if e.fallback = .due then .unused else e.fallback) ∧
            (∀ k n, chosen e → e.fallback = .pending k n → e'.fallback = e.fallback) ∧
            (∀ kind, chosen e → called e = some kind → e.fallback = .used →
              e'.fallback = .used ∧ t.platform.phaseFault = true) ∧
            (∀ kind, chosen e → called e = some kind → (e.fallback = .unused ∨ e.fallback = .due) →
              e.owner ≠ s.station → s.roleAt e.owner ≠ .absent → s.asks.entries.length = 4 →
              s.line.queue.length < 8 → (∀ x ∈ s.platform.zone, x ≠ e → ¬ chosen x) →
              (free = none → e'.fallback = .due) ∧
              ∀ n, free = some n → e'.fallback = .pending kind n ∧
                ∃ tag, t.asks.entries[n]? = some ⟨.queued, .fallback, kind, e.owner, 0, tag, 0, none, none⟩))))

/-- FALLBACK_ASK (R120, R121): an entry whose choice is due and whose phase calls for an ask is asked through the Ask
Table, and PENDING; with the table full it is DUE; with the fallback USED a PHASE fault is raised. DEPARTURE_UNREADY
on its own (R111): a watched cabin whose mark count stands at 2 has its unready mark set. That PENDING remembers the
ask entry, and that the choice is due, are marks of the model's (log 14, log 25). -/
def Obligations.FallbackAsksAndUnreadyCabins : Prop :=
  (∀ (s : State) (place : Fin 3) (e : ZoneEntry) (kind : AskKind),
    s.resetHeld = false → s.mode = .joined → s.role = .platform → s.platform.zone[place.val]? = some e →
    e.choiceDue = true → e.fallbackFor (s.record e.cabin).phase = some kind →
    let free := s.asks.entries.findIdx? fun x => x.state == .free
    ∃ t, exec (.fallbackAsk place) s = .next t ∧
      (∀ n, (e.fallback = .unused ∨ e.fallback = .due) → e.owner ≠ s.station → s.roleAt e.owner ≠ .absent →
        free = some n → s.hasRoom →
        (t.platform.zone[place.val]?).map ZoneEntry.fallback = some (.pending kind n) ∧
        ∃ tag, t.asks.entries[n]? = some ⟨.queued, .fallback, kind, e.owner, 0, tag, 0, none, none⟩ ∧
          s.queuedAlso t .ask (askBody e.owner kind tag 0)) ∧
      ((e.fallback = .unused ∨ e.fallback = .due) → e.owner ≠ s.station → s.roleAt e.owner ≠ .absent → free = none →
        t.platform.zone[place.val]? = some { e with fallback := .due, choiceDue := false } ∧
        State.sameBut (.platform :: followers) s t) ∧
      (∀ k n, e.fallback = .pending k n →
        t.platform.zone[place.val]? = some { e with choiceDue := false } ∧
        State.sameBut (.platform :: followers) s t) ∧
      (e.fallback = .used →
        t.platform.phaseFault = true ∧
        (s.hasRoom → s.queuedAlso t .essential
          (noticeBody .zoneFault (some e.cabin) ZoneFaultKind.phase.code.toNat kind.code.toNat)) ∧
        State.sameBut (.platform :: queueParts ++ followers) s t)) ∧
  (∀ (s : State) (cabin : Fin 48), s.running → s.role = .platform →
    ⟨cabin.val, 2, false⟩ ∈ s.platform.watch →
    ∃ t, exec (.departureUnready cabin) s = .next t ∧
      t.platform.withoutGates =
        { s.platform.withoutGates with
          watch := s.platform.watch.map fun w => if w.cabin = cabin.val then { w with unready := true } else w } ∧
      State.sameBut (.platform :: followers) s t)

/-! ### Wind watch (chapter 7) -/

/-- A wind tick takes its sample (R127 to R132), row by row of the table of R129: the sample entered, the kind of
tick, the miss count, the sensor fault and the good-sample count; then the sample ring and the gust, the slice
accumulator, the slice ring and the sustained value. The tick timer starts its next 250 ms. That a command with a time
of its own first lets that time pass is the model's choice (log 2). -/
def Obligations.WindTickTakesItsSample : Prop :=
  ∀ (s : State) (n : Nat), s.resetHeld = false → s.wind.tick = some n → s.WindSound →
    let w := s.wind
    let sample : Option Nat :=
      match w.pending with
      | none => w.last
      | some r =>
        if r.overrange then some 500
        else if r.polarity = .negative ∧ 0 < r.count / 4 then w.last
        else some (r.count / 4)
    let missed := w.pending = none
    let bad := ∃ r, w.pending = some r ∧ (r.overrange = true ∨ (r.polarity = .negative ∧ 0 < r.count / 4))
    ∃ t, exec .windTick s = .next t ∧ t.wind.tick = some (ms 250) ∧ t.wind.pending = none ∧ t.wind.last = sample ∧
      (missed → t.wind.miss = min 3 (w.miss + 1)) ∧ (¬ missed → t.wind.miss = 0) ∧
      (bad ∨ (missed ∧ 2 ≤ w.miss) → t.wind.sensorFault = true ∧ t.wind.good = 0) ∧
      (missed → w.miss < 2 → t.wind.sensorFault = w.sensorFault ∧ t.wind.good = w.good) ∧
      (¬ missed → ¬ bad →
        (w.sensorFault = false → t.wind.sensorFault = false ∧ t.wind.good = w.good) ∧
        (w.sensorFault = true → w.good < 11 → t.wind.sensorFault = true ∧ t.wind.good = w.good + 1) ∧
        (w.sensorFault = true → w.good = 11 → t.wind.sensorFault = false ∧ t.wind.good = 0)) ∧
      (sample = none →
        t.wind.ring = w.ring ∧ t.wind.gust = w.gust ∧ t.wind.accSum = w.accSum ∧ t.wind.accCount = w.accCount ∧
          t.wind.slices = w.slices ∧ t.wind.sustained = w.sustained) ∧
      (∀ x, sample = some x →
        t.wind.ring = (if w.ring.length = 12 then w.ring.tail else w.ring) ++ [x] ∧
        t.wind.gust = some (t.wind.ring.sum / t.wind.ring.length) ∧
        (w.accCount < 59 →
          t.wind.accSum = w.accSum + x ∧ t.wind.accCount = w.accCount + 1 ∧ t.wind.slices = w.slices) ∧
        (w.accCount = 59 →
          t.wind.accSum = 0 ∧ t.wind.accCount = 0 ∧
            t.wind.slices = (if w.slices.length = 40 then w.slices.tail else w.slices) ++ [(w.accSum + x) / 60]) ∧
        t.wind.sustained =
          if t.wind.slices = [] then t.wind.gust else some (t.wind.slices.sum / t.wind.slices.length)) ∧
      State.sameBut (.wind :: queueParts ++ followers) (s.elapse n) t

/-- The stage machine at a wind tick (R133 to R138, R141): at most one change of stage, from the gust and the
sustained value this tick has set and the replica as it stands, with the counts of R134 to R136 and a WIND_STAGE
notice for a change. While the gust is absent nothing is decided. The thresholds of the Wind Monitor as commands of
their own (R130, R132, R134 to R136): each acts where its count stands at its number; the two that change the stage
offer their notice. A new stay in HOLD waits for its clear wait afresh (R135). That a command with a time of its own
first lets that time pass is the model's choice (log 2). The mark that the clear wait has passed is the model's (log
28). -/
def Obligations.WindStageIsDecidedAtTheTick : Prop :=
  (∀ (s : State) (n : Nat), s.resetHeld = false → s.wind.tick = some n →
    let g := s.settings
    let old := s.wind
    ∃ t, exec .windTick s = .next t ∧
      (let w := t.wind
       let reaches := fun (v : Option Nat) (limit : Nat) => ∃ x, v = some x ∧ limit ≤ x
       let below := fun (v : Option Nat) (limit : Nat) => ∃ x, v = some x ∧ x < limit
       let holds := reaches w.gust g.holdGust ∨ reaches w.sustained g.holdSustained
       let released := below w.gust g.releaseGust ∧ below w.sustained g.releaseSustained ∧ w.ring.length = 12 ∧
         w.sensorFault = false
       let calm := below w.gust (g.watchGust - g.watchHysteresis) ∧ w.sensorFault = false
       let empty := s.occupiedCount = 0
       let stays := w.stage = old.stage ∧ t.line.queue = (s.elapse n).line.queue
       let enters := fun (stage : Stage) =>
         w.stage = stage ∧
           (stage = .watch → w.watchCalm = 0) ∧ 
           (stage = .hold → w.release = 0 ∧ w.clearWait = 0 ∧ w.clearPassed = false) ∧
           (s.hasRoom →
             (s.elapse n).queuedAlso t .essential
               (noticeBody .windStage none stage.code.toNat old.stage.code.toNat))
       (w.gust = none →
         stays ∧ w.watchCalm = old.watchCalm ∧ w.release = old.release ∧ w.clearWait = old.clearWait ∧
           w.clearPassed = old.clearPassed) ∧
       (w.gust ≠ none →
         (old.stage = .calm →
           (holds → enters .hold) ∧ (¬ holds → reaches w.gust g.watchGust → enters .watch) ∧
           (¬ holds → ¬ reaches w.gust g.watchGust → stays)) ∧
         (old.stage = .watch →
           (holds → enters .hold) ∧
           (¬ holds → ¬ calm → 0 < g.watchCalmTime → stays ∧ w.watchCalm = 0) ∧
           (¬ holds → calm → old.watchCalm + 1 < 4 * g.watchCalmTime → stays ∧ w.watchCalm = old.watchCalm + 1) ∧
           (¬ holds → calm → 4 * g.watchCalmTime ≤ old.watchCalm + 1 → enters .calm)) ∧
         (old.stage = .hold → 0 < g.releaseTime →
           let waited := min (4 * g.clearWait) (old.clearWait + 1)
           let clears := (old.clearPassed = true ∨ 4 * g.clearWait ≤ waited) ∧ below w.gust g.creepCeiling ∧
             w.sensorFault = false ∧ ¬ empty
           let passes := released ∧ 4 * g.releaseTime ≤ old.release + 1
           (passes → enters .watch) ∧ (¬ passes → clears → enters .clear) ∧
           (¬ passes → ¬ clears →
             stays ∧ w.clearWait = waited ∧
               (w.clearPassed = true ↔ old.clearPassed = true ∨ 4 * g.clearWait ≤ waited) ∧
               (released → w.release = old.release + 1) ∧
               (¬ released → w.release = 0))) ∧
         (old.stage = .clear →
           let shut := empty ∧ s.replica.divergence = false
           (shut → enters .shut) ∧ (¬ shut → reaches w.gust g.creepCeiling → enters .hold) ∧
           (¬ shut → ¬ reaches w.gust g.creepCeiling → stays)) ∧
         (old.stage = .shut → stays)))) ∧
  (∀ s : State, s.resetHeld = false → s.role = .mast →
    (s.wind.sensorFault = true → s.wind.good = 12 →
      ∃ t, exec .sensorFaultClear s = .next t ∧ t.wind = { s.wind with sensorFault := false, good := 0 } ∧
        State.sameBut (.wind :: followers) s t) ∧
    (s.wind.accCount = 60 →
      ∃ t, exec .sliceCompletion s = .next t ∧
        t.wind =
          { s.wind with
            accSum := 0, accCount := 0, slices := t.wind.slices
            sustained := some (t.wind.slices.sum / t.wind.slices.length) } ∧
        (s.wind.slices.length < 40 → t.wind.slices = s.wind.slices ++ [s.wind.accSum / 60]) ∧
        (s.wind.slices.length = 40 → t.wind.slices = s.wind.slices.tail ++ [s.wind.accSum / 60]) ∧
        State.sameBut (.wind :: followers) s t) ∧
    (s.wind.stage = .watch → 4 * s.settings.watchCalmTime ≤ s.wind.watchCalm →
      ∃ t, exec .watchCalmComplete s = .next t ∧ t.wind = { s.wind with stage := .calm } ∧
        (s.hasRoom → s.queuedAlso t .essential
          (noticeBody .windStage none Stage.calm.code.toNat Stage.watch.code.toNat)) ∧
        State.sameBut (.wind :: queueParts ++ followers) s t) ∧
    (s.wind.stage = .hold → 4 * s.settings.releaseTime ≤ s.wind.release →
      ∃ t, exec .releaseCountComplete s = .next t ∧ t.wind = { s.wind with stage := .watch, watchCalm := 0 } ∧
        (s.hasRoom → s.queuedAlso t .essential
          (noticeBody .windStage none Stage.watch.code.toNat Stage.hold.code.toNat)) ∧
        State.sameBut (.wind :: queueParts ++ followers) s t) ∧
    (s.wind.stage = .hold → 4 * s.settings.clearWait ≤ s.wind.clearWait → s.wind.clearPassed = false →
      ∃ t, exec .clearWaitPassed s = .next t ∧ t.wind = { s.wind with clearPassed := true } ∧
        State.sameBut (.wind :: followers) s t))

/-! ### The Integrating Converter (chapter 8) -/

/-- A conversion passes ZEROING, INTEGRATING and DEINTEGRATING with the times of its mode (R144, R146, R147), the
polarity being that of the mean input; and a restart, in any phase, begins again from ZEROING and keeps the record,
the sequence and the stale marker, or does nothing in mode none (R151). A conversion ends in a result (R145, R148 to
R150, R153): the count is the full scale times the mean input over 1 V, rounded down, at the zero crossing; or the
full scale, with the overrange flag, for an input at or beyond 1 V. The record and the sequence are written, the stale
marker shows a read in progress, ZEROING is entered, and the result goes to the cabin, where all that `WeighingIsJudged`
says comes of it, its notices with it (R93, R94), or to the mast. The input is the
operand of INTEGRATING_END (log 9). That a command with a time of its own first lets that time pass is the model's
choice (log 2). -/
def Obligations.ConversionPassesItsPhases : Prop :=
  (∀ s : State,
    (∀ (m : ConvMode) (n : Nat) (x : Int), s.resetHeld = false → s.conv.mode = some m → s.conv.timer = some n →
      (s.conv.phase = .zeroing →
        ∃ t, exec .zeroingEnd s = .next t ∧
          t.conv =
            { s.conv with phase := .integrating, timer := some (if m = .load then ms 160 else ms 40) } ∧
          State.sameBut (.conv :: followers) (s.elapse n) t) ∧
      (s.conv.phase = .integrating →
        ∃ t, exec (.integratingEnd x) s = .next t ∧
          t.conv =
            { s.conv with
              phase := .deintegrating, timer := none, integrator := x, deint := 0
              polarity := some (if x < 0 then .negative else .positive) } ∧
          State.sameBut (.conv :: followers) (s.elapse n) t)) ∧
    (s.conv.mode = none → s.restartConverter = s) ∧
    (∀ m, s.conv.mode = some m →
      s.restartConverter.conv =
        { s.conv with
          phase := .zeroing, timer := some (if m = .load then ms 80 else ms 20), integrator := 0, deint := 0
          polarity := none } ∧
      State.sameBut [.conv] s s.restartConverter)) ∧
  (∀ (s : State) (c : Instr) (m : ConvMode) (x : Int) (p : Polarity),
    s.resetHeld = false → s.conv.mode = some m → s.conv.phase = .deintegrating → s.conv.integrator = x →
    s.conv.polarity = some p →
    let scale := if m = .load then 16000 else 2000
    let period := if m = .load then 20 else 40
    let beyond := 1000000 ≤ x.natAbs
    (c = .zeroCrossingLatch ∧ ¬ beyond ∨ c = .overrangeLatch ∧ beyond) →
    let count := if beyond then scale else x.natAbs * scale / 1000000
    let r : Result := ⟨count, p, decide beyond, m, s.conv.sequence + 1⟩
    let u := s.elapse ((if beyond then scale * period else x.natAbs * scale * period / 1000000) - s.conv.deint)
    ∃ t, exec c s = .next t ∧
      t.conv =
        { s.conv with
          phase := .zeroing, timer := some (if m = .load then ms 80 else ms 20), integrator := 0, deint := 0
          polarity := none, record := some r, sequence := s.conv.sequence + 1
          stale := s.conv.stale || s.conv.reading } ∧
      (s.role = .cabin → t.cabin = (u.deliverLoad r).cabin ∧ t.line.queue = (u.deliverLoad r).line.queue ∧
        State.sameBut (.conv :: followers) (u.deliverLoad r) t ∧
        State.sameBut (.conv :: .cabin :: queueParts ++ followers) u t) ∧
      (s.role = .mast →
        t.wind = (if m = .wind then { u.wind with pending := some r } else u.wind) ∧
        State.sameBut (.conv :: .wind :: followers) u t) ∧
      (s.role ≠ .cabin → s.role ≠ .mast → State.sameBut (.conv :: followers) u t))

/-! ### Asks (chapter 9) -/

/-- Asks that name the own station, at the stations that are no cabin (R116, R122, R139, R165, R166): the PLATFORM's and
the MAST's kinds are carried out, every other kind, and at the other roles every kind, is refused with WRONG_ROLE; each
is answered with a REPLY. An ASK that names another station acts only on the ask marks of a PLATFORM (R118). That the
WIND_STAGE notice comes before the REPLY is the model's choice (log 6), and that the reception lets the frame's time
pass (log 22). That a break after a frame's last byte leaves the frame as it is, is the model's choice (log 45). -/
def Obligations.StationAnswersItsAsks : Prop :=
  ∀ (s₀ s : State) (bits : List LineBit) (f : Frame), s₀.atFrameEnd bits s →
    f.acceptedBy bits s → f.header = classHeader .ask → s.role ≠ .cabin →
    let code := byteAt f.body 1
    let target := (byteAt f.body 0).toNat
    let p := s.platform.withoutGates
    let reply := fun (answer : Answer) => TxEntry.fresh .reply (replyBody f.sender (byteAt f.body 2) answer) none
    let rest := fun (changed : List Part) (t : State) =>
      State.sameBut (.idle :: .capture :: changed ++ statusParts ++ followers) s t
    ∃ t, exec (.frameReception bits) s₀ = .next t ∧
      (target ≠ s.station → s.role ≠ .platform → rest [] t) ∧
      (target ≠ s.station → s.role = .platform →
        t.platform.withoutGates = { p with zone := t.platform.zone } ∧ rest [.platform] t ∧
        ∀ i : Nat, t.platform.zone[i]? =
          (s.platform.zone[i]?).map fun e =>
            { e with
              closedByAsk := e.closedByAsk ||
                decide (code = AskKind.doorClose.code ∧ e.owner = target ∧ e.segment ≠ .closing)
              openedByAsk := e.openedByAsk ||
                decide (code = AskKind.doorOpen.code ∧ e.owner = target ∧ (e.segment = .closing ∨ e.mode = .pass)) }) ∧
      (target = s.station → s.role = .platform →
        (code = AskKind.boardingOpen.code ∨ code = AskKind.boardingShut.code →
          let on := code = AskKind.boardingOpen.code
          t.platform.boardingState = decide on ∧
          (s.platform.boardingState = decide on → t.platform.withoutGates = p) ∧
          (s.platform.boardingState ≠ decide on →
            t.platform.withoutGates =
              { p with
                boardingState := decide on, unloading := s.unloadingRun
                boardingOpen := decide on && !s.windBars && !s.unloadingRun }) ∧
          (s.hasRoom → t.line.queue = s.line.queue ++ [reply .accepted])) ∧
        (code = AskKind.zoneClear.code →
          t.platform.withoutGates = { p with zone := [], watch := [], orderFault := false, indexFault := false } ∧
          (s.hasRoom → t.line.queue = s.line.queue ++ [reply .accepted])) ∧
        rest [.platform, .queue] t) ∧
      (target = s.station → s.role = .mast → code = AskKind.windResume.code →
        let ready := s.wind.ring.length = 12 ∧ s.wind.sensorFault = false ∧
          (∃ x, s.wind.gust = some x ∧ x < s.settings.releaseGust) ∧
          ∃ x, s.wind.sustained = some x ∧ x < s.settings.releaseSustained
        (s.wind.stage = .shut → ready →
          t.wind = { s.wind with stage := .calm } ∧
          (s.hasRoom → s.line.queue.length < 7 →
            t.line.queue =
              s.line.queue ++
                [TxEntry.fresh .essential
                  (noticeBody .windStage none Stage.calm.code.toNat Stage.shut.code.toNat) none, reply .accepted])) ∧
        (s.wind.stage = .shut → ¬ ready →
          t.wind = s.wind ∧ (s.hasRoom → t.line.queue = s.line.queue ++ [reply (.refused .wind)])) ∧
        (s.wind.stage ≠ .shut →
          t.wind = s.wind ∧ (s.hasRoom → t.line.queue = s.line.queue ++ [reply (.refused .notApplicable)])) ∧
        rest [.wind, .queue] t) ∧
      (target = s.station →
        (∀ k : AskKind, code = k.code →
          ¬ (s.role = .platform ∧ (k = .boardingOpen ∨ k = .boardingShut ∨ k = .zoneClear)) ∧
            ¬ (s.role = .mast ∧ k = .windResume)) →
        (s.hasRoom → t.line.queue = s.line.queue ++ [reply (.refused .wrongRole)]) ∧ rest [.queue] t)

/-- An ask issued at the tap of a CONSOLE or PLATFORM station (R157, R158, R188): refused with NO_STATION or FULL, or
taken into the lowest FREE entry with the first free tag from the tag counter on, and its frame queued. While the
station is not JOINED it is answered TAKEN all the same, and its entry is FAILED. That one selection is one
transaction is the model's reading (log 10). -/
def Obligations.TapAskIsOffered : Prop :=
  ∀ (s : State) (kind target : Byte) (argument : Word) (k : AskKind),
    s.running → s.tapFree = true → (s.role = .console ∨ s.role = .platform) → AskKind.ofCode kind = some k →
    target.toNat ≤ 63 → s.AsksSound →
    let nobody := target.toNat = s.station ∨ s.roleAt target.toNat = .absent
    let taken := fun tag : Nat => ∃ e ∈ s.asks.entries, e.state ≠ .free ∧ e.tag = tag
    ∃ t, exec (.ask kind target argument) s = .next t ∧ t.tap.phase = .answering ∧
      (nobody → t.tap.answer = [0x80, 8] ∧ State.sameBut ([.tap, .renewal, .capture] ++ followers) s t) ∧
      (¬ nobody → (∀ e ∈ s.asks.entries, e.state ≠ .free) →
        t.tap.answer = [0x80, 7] ∧ State.sameBut ([.tap, .renewal, .capture] ++ followers) s t) ∧
      (∀ (before after : List AskEntry) (e : AskEntry), ¬ nobody → s.asks.entries = before ++ e :: after →
        e.state = .free → (∀ x ∈ before, x.state ≠ .free) →
        ∃ i : Nat, i < 16 ∧
          (let tag := (s.asks.tagCounter + i) % 16
           let entry : AskEntry := ⟨.queued, .tap, k, target.toNat, argument, tag, 0, none, none⟩
           ¬ taken tag ∧ (∀ j : Nat, j < i → taken ((s.asks.tagCounter + j) % 16)) ∧
           t.tap.answer = [1, BitVec.ofNat 8 before.length, BitVec.ofNat 8 tag] ∧
           t.asks.tagCounter = (tag + 1) % 16 ∧ t.asks.lateReply = s.asks.lateReply ∧
           (s.hasRoom →
             t.asks.entries = before ++ entry :: after ∧ s.queuedAlso t .ask (askBody target.toNat k tag argument)) ∧
           (s.mode ≠ .joined →
             t.asks.entries = before ++ { entry with state := .failed } :: after ∧ t.line.queue = s.line.queue) ∧
           State.sameBut
             (.tap :: .capture :: .asks :: queueParts ++ followers ++
               if s.role = .platform then [.platform] else []) s t))

/-- A REPLY delivered (R121, R159, R161): one to another asker changes nothing; one that matches a WAITING entry by tag
and target makes it ANSWERED, with the outcome and reason recorded by the table of R159 (that a REFUSED with reason code
0 is recorded as NOT_APPLICABLE is the model's reading of it, log 24); one that matches none is a late reply. The end of
a fallback ask makes its zone entry's fallback USED, fresh if accepted, with a PHASE fault if not. Asks at a mark, and
their expiry (R160, R162), at every station and of every origin: a QUEUED entry is left as it is, a WAITING entry counts
the mark and expires at the second, which ASK_EXPIRED counts, and an entry that had ended becomes FREE, or holds the
fallback ask that a PLATFORM's zone has put there at the same mark. ASK_EXPIRY on its own expires an entry whose marks
stand at 2. That PENDING remembers the ask entry is the model's (log 14); that the reception lets the frame's time pass
is its choice (log 22). That a break after a frame's last byte leaves the frame as it is, is the model's choice (log
45). -/
def Obligations.RepliesAndMarksEndTheAsk : Prop :=
  (∀ (s₀ s : State) (bits : List LineBit) (f : Frame), s₀.atFrameEnd bits s →
    f.acceptedBy bits s → f.header = classHeader .reply → s.AsksSound →
    let mine := (byteAt f.body 0).toNat = s.station
    let outcome := byteAt f.body 2
    let reason := byteAt f.body 3
    let matching := fun e : AskEntry =>
      e.state = .waiting ∧ e.tag = (byteAt f.body 1).toNat ∧ e.target = f.sender.toNat
    let recorded : Option ReplyReason :=
      if outcome = 0 then none
      else if outcome = 1 then some ((ReplyReason.ofCode reason).getD .notApplicable)
      else some .notApplicable
    ∃ t, exec (.frameReception bits) s₀ = .next t ∧
      (¬ mine → State.sameBut (.idle :: .capture :: statusParts ++ followers) s t) ∧
      (mine → (∀ e ∈ s.asks.entries, ¬ matching e) →
        t.asks = { s.asks with lateReply := raisedCount s.asks.lateReply } ∧
        State.sameBut (.idle :: .capture :: .asks :: statusParts ++ followers) s t) ∧
      (∀ (before after : List AskEntry) (e : AskEntry), mine → s.asks.entries = before ++ e :: after → matching e →
        t.asks =
          { s.asks with
            entries := before ++
              { e with state := .answered, accepted := some (decide (outcome = 0)), reason := recorded } :: after } ∧
        (e.origin ≠ .fallback → State.sameBut (.idle :: .capture :: .asks :: statusParts ++ followers) s t) ∧
        (∀ (front back : List ZoneEntry) (z : ZoneEntry) (kind : AskKind),
          e.origin = .fallback → s.platform.zone = front ++ z :: back → z.fallback = .pending kind before.length →
          (∀ x ∈ front, ∀ k, x.fallback ≠ .pending k before.length) →
          (outcome = 0 →
            t.platform.zone = front ++ { z with fallback := .used, mismatch := 0, settle := true } :: back) ∧
          (outcome ≠ 0 →
            t.platform.zone = front ++ { z with fallback := .used } :: back ∧ t.platform.phaseFault = true ∧
            (s.hasRoom → s.queuedAlso t .essential
              (noticeBody .zoneFault (some z.cabin) ZoneFaultKind.phase.code.toNat kind.code.toNat)))))) ∧
  ((∀ (c : Instr) (s u : State) (number : Byte) (heard : Option (List Byte)), s.takesMark c u number heard →
    s.CountersSound → s.asks.entries.length = 4 →
    let quiet := s.role ≠ .platform ∨ s.platform.zone = []
    ∃ t, exec c s = .next t ∧ t.asks.lateReply = s.asks.lateReply ∧ t.asks.entries.length = 4 ∧
      (quiet → t.asks.tagCounter = s.asks.tagCounter) ∧
      (∀ (i : Nat) (e : AskEntry), s.asks.entries[i]? = some e →
        (e.state = .queued → t.asks.entries[i]? = some e) ∧
        (e.state = .waiting →
          t.asks.entries[i]? =
            some { e with marks := e.marks + 1, state := if 1 ≤ e.marks then .expired else .waiting }) ∧
        (e.state ≠ .queued → e.state ≠ .waiting →
          let left := if e.state = .free then e else AskEntry.blank
          (quiet → t.asks.entries[i]? = some left) ∧
          ∃ x, t.asks.entries[i]? = some x ∧
            (x = left ∨
              x.origin = .fallback ∧ (x.state = .queued ∨ x.state = .failed) ∧ x.marks = 0 ∧
                (x.kind = .doorOpen ∨ x.kind = .doorClose) ∧ x.argument = 0 ∧
                ∃ z ∈ s.platform.zone, z.owner = x.target))) ∧
      t.counter .askExpired =
        min 65535 (s.counter .askExpired +
          (s.asks.entries.filter fun e => e.state == .waiting && decide (1 ≤ e.marks)).length)) ∧
  ∀ (s : State) (entry : Fin 4) (before after : List AskEntry) (e : AskEntry),
    s.running → s.CountersSound → s.asks.entries = before ++ e :: after → before.length = entry.val →
    e.state = .waiting → e.marks = 2 →
    ∃ t, exec (.askExpiry entry) s = .next t ∧
      t.asks = { s.asks with entries := before ++ { e with state := .expired } :: after } ∧
      t.counter .askExpired = raisedCount (s.counter .askExpired) ∧
      (e.origin ≠ .fallback → State.counted .askExpired s t ∧
        State.sameBut ([.asks, .counters, .attention, .renewal] ++ followers) s t) ∧
      State.sameBut (.asks :: .platform :: queueParts ++ followers) s t)

/-- The zone queue and the Ask Table stay sound at every step (R104, R157, R160). The Wind Monitor and the converter
stay sound at every step (R129 to R132, R144, R145, R155). -/
def Obligations.EveryStepKeepsZoneAsksWindAndConverter : Prop :=
  (∀ s t : State, step s = .next t → (s.ZoneSound → t.ZoneSound) ∧ (s.AsksSound → t.AsksSound)) ∧
  (∀ s t : State, step s = .next t →
    (s.WindSound → t.WindSound) ∧ (s.ConverterSound → t.ConverterSound))

/-! ### Start-up and configuration (chapter 10) -/

/-- START_RESET from any state (R174): every block takes the start values of its chapter (R25, R45, R51, R65, R78,
R102, R126, R143, R156, R163, R173, R181, R198), the outputs are released and FAULT_N and ATTN are low (R175).
RESET_RELEASE samples the straps, seeds the pseudo-random sequence with the station number plus one, and the first try
begins: it fails at once, with its 5 ms wait, only where CFG_SDA is still low after nine clock pulses (R174, R176).
The number on the frozen side is the model's choice (log 4), and so are the input filters, which start passed (log 5). -/
def Obligations.StartResetAndItsRelease : Prop :=
  (∀ s : State, ∃ t, exec .startReset s = .next t ∧ t.fi = s.fi ∧ t.pending = s.pending ∧ t.mode = .loading ∧
    t.loader.phase = .reading ∧ t.loader.tries = 1 ∧ t.loader.version = none ∧ t.loader.cause = .noCause ∧
    t.loader.detail = 0 ∧
    t.line.queue = [] ∧ t.line.isoScore = 0 ∧ t.line.isoCount = 0 ∧ t.line.isoTimer = none ∧
    t.line.peersCongested = false ∧
    t.round.number = 0 ∧ t.round.timer = 0 ∧ t.round.current = ⟨0, List.replicate 64 none⟩ ∧
    t.round.frozen = ⟨0, List.replicate 64 none⟩ ∧ t.round.published = none ∧ t.round.marksTaken = 0 ∧
    t.round.firstMark = true ∧ t.round.roundLost = false ∧
    t.agreement = ⟨.stop, none, [], 0, false, false⟩ ∧
    t.drive.state = .braked ∧ t.drive.target = .stop ∧ t.drive.demand = .stop ∧ t.drive.confirm = 0 ∧
    t.drive.reasons = 0 ∧
    t.replica = ⟨List.replicate 48 ⟨none, .away, .noMarker, none, none, false, false, .stop, none, 0⟩, false⟩ ∧
    (∀ i : Fin 48, t.aged (t.record i.val) = true) ∧ t.filter = List.replicate 24 0 ∧
    t.cabin.marker = .noMarker ∧ t.cabin.occupancy = none ∧ t.cabin.load = none ∧ t.cabin.dwell = false ∧
    t.cabin.departPending = false ∧ t.cabin.action = .idle ∧ t.cabin.attempts = 0 ∧
    t.platform.zone = [] ∧ t.platform.watch = [] ∧ t.platform.boardingState = false ∧ t.platform.unloading = false ∧
    t.platform.stopFlag = false ∧ t.platform.rebuildPending = true ∧ t.platform.exitGate = ⟨false, false, none⟩ ∧
    t.platform.entryGate = ⟨false, false, none⟩ ∧
    t.wind.tick = none ∧ t.wind.stage = .hold ∧ t.wind.ring = [] ∧ t.wind.slices = [] ∧ t.wind.gust = none ∧
    t.wind.sustained = none ∧ t.wind.sensorFault = false ∧
    t.conv.phase = .idle ∧ t.conv.mode = none ∧ t.conv.record = none ∧ t.conv.sequence = 0 ∧
    (∀ e ∈ t.asks.entries, e.state = .free) ∧ t.asks.entries.length = 4 ∧ t.asks.tagCounter = 0 ∧
    t.asks.lateReply = 0 ∧ t.console = ⟨false, false⟩ ∧
    t.tap.phase = .idle ∧ t.capture.on = false ∧ t.capture.devices = 32 ∧ t.capture.sequence = 0 ∧
    t.capture.selectors = List.replicate 6 none ∧
    t.status.flags = 0 ∧ t.status.mask = 0 ∧ t.status.counters = List.replicate 14 0 ∧
    t.status.causes = ⟨false, false, false, false⟩ ∧ t.status.newCaptures = 0 ∧ t.status.attnTimer = none ∧
    t.sinking = 0 ∧ t.faultN = false ∧ t.attn = false) ∧
  ∀ (s : State) (straps : BitVec 6) (pulses : Nat), s.resetHeld = true →
    ∃ t, exec (.resetRelease straps pulses) s = .next t ∧ t.resetHeld = false ∧ t.station = straps.toNat ∧
      t.line = { s.line with prng := BitVec.ofNat 16 (straps.toNat + 1) } ∧
      (pulses ≤ 9 →
        State.sameBut ([.resetHeld, .station, .line] ++ followers) s t) ∧
      (9 < pulses → s.loader.tries < 3 →
        t.loader = { s.loader with retryWait := some (ms 5) } ∧
        State.sameBut ([.resetHeld, .station, .line, .loader] ++ followers) s t)

/-- The checks of an image in their order (R178 to R180, R200): the first that fails gives the cause and its detail, and
an image that meets them all passes. They are the version, the CRC, the roster entries by station number, the own
entry, the counts of the roles, the cabin indices, the ranks, a rank at all, and the settings by their numbers 1 to
31, each with its default in place of FFh or FFFFh. -/
def Obligations.PassingImageIsSound : Prop :=
  ∀ (image : List Byte) (station : Nat), image.length = 256 → station < 64 →
    let at_ := fun i : Nat => (image.getD i 0).toNat
    let crc := (crc16 (image.take 254)).toNat
    let role := fun n : Nat => at_ (1 + 3 * n)
    let cabin := fun n : Nat => at_ (2 + 3 * n)
    let rank := fun n : Nat => at_ (3 + 3 * n)
    let formed := fun n : Nat =>
      role n = 1 ∧ cabin n ≤ 47 ∧ rank n = 255 ∨ role n = 0 ∧ cabin n = 255 ∧ rank n = 255 ∨
        2 ≤ role n ∧ role n ≤ 5 ∧ cabin n = 255 ∧ (rank n ≤ 7 ∨ rank n = 255)
    let allFormed := ∀ n : Nat, n < 64 → formed n
    let count := fun r : Nat => ((List.range 64).filter fun n => role n == r).length
    let inLimits := fun r : Nat =>
      (r = 1 → 1 ≤ count 1 ∧ count 1 ≤ 48) ∧ (r = 2 → count 2 = 1) ∧ (r = 3 → 1 ≤ count 3 ∧ count 3 ≤ 4) ∧
        (r = 4 → 1 ≤ count 4 ∧ count 4 ≤ 3) ∧ (r = 5 → count 5 ≤ 2)
    let shared := fun (field : Nat → Nat) (v : Nat) => ∃ n m : Nat, n < m ∧ m < 64 ∧ field n = v ∧ field m = v
    let marked := ∃ n : Nat, n < 64 ∧ rank n ≤ 7
    let one := fun i dflt : Nat => if at_ i = 255 then dflt else at_ i
    let two := fun i dflt : Nat =>
      if at_ i * 256 + at_ (i + 1) = 65535 then dflt else at_ i * 256 + at_ (i + 1)
    let selector := fun i : Nat =>
      at_ i = 255 ∨ at_ i = 0 ∨
        (1 ≤ at_ i ∧ at_ i ≤ 5 ∨ at_ i = 14) ∧ (at_ (i + 1) ≤ 63 ∨ at_ (i + 1) = 254) ∧
          (at_ (i + 2) = 254 ∨ at_ i = 3 ∧ 1 ≤ at_ (i + 2) ∧ at_ (i + 2) ≤ 13 ∨
            at_ i = 4 ∧ 1 ≤ at_ (i + 2) ∧ at_ (i + 2) ≤ 8)
    let watchGust := two 206 120
    let holdGust := two 212 180
    let fits := fun k : Nat =>
      (k = 1 → one 193 1 ≤ 3) ∧ (k = 2 → one 194 10 = 10 ∨ one 194 10 = 20) ∧
      (k = 3 → 2 ≤ one 195 3 ∧ one 195 3 ≤ 6) ∧ (4 ≤ k → k ≤ 8 → one (192 + k) 0 ≤ 3) ∧
      (k = 9 → 1 ≤ one 201 2 ∧ one 201 2 ≤ 4) ∧ (k = 10 → 10 ≤ one 202 20 ∧ one 202 20 ≤ 60) ∧
      (k = 11 → 1 ≤ one 203 25 ∧ one 203 25 ≤ 32) ∧ (k = 12 → 100 ≤ two 204 2400 ∧ two 204 2400 ≤ 4000) ∧
      (k = 13 → 1 ≤ watchGust ∧ watchGust ≤ 500) ∧ (k = 14 → two 208 20 ≤ watchGust) ∧
      (k = 15 → 15 ≤ two 210 60 ∧ two 210 60 ≤ 600) ∧ (k = 16 → watchGust ≤ holdGust ∧ holdGust ≤ 500) ∧
      (k = 17 → 1 ≤ two 214 140 ∧ two 214 140 ≤ 500) ∧ (k = 18 → 1 ≤ two 216 150 ∧ two 216 150 ≤ holdGust) ∧
      (k = 19 → 1 ≤ two 218 110 ∧ two 218 110 ≤ two 214 140) ∧ (k = 20 → 60 ≤ two 220 300 ∧ two 220 300 ≤ 1800) ∧
      (k = 21 → holdGust ≤ two 222 220 ∧ two 222 220 ≤ 500) ∧ (k = 22 → 60 ≤ two 224 600 ∧ two 224 600 ≤ 3600) ∧
      (k = 23 → one 226 4 ≤ 16) ∧ (k = 24 → 1 ≤ one 227 8 ∧ one 227 8 ≤ 32) ∧ (k = 25 → 1 ≤ one 228 4) ∧
      (26 ≤ k → k ≤ 31 → selector (229 + 3 * (k - 26)))
    let answer := imageFailure image station
    (at_ 0 ≠ 1 → answer = some (.version, at_ 0)) ∧
    (at_ 0 = 1 → crc ≠ at_ 254 * 256 + at_ 255 → answer = some (.crc, crc)) ∧
    (at_ 0 = 1 → crc = at_ 254 * 256 + at_ 255 →
      (∀ n : Nat, n < 64 → ¬ formed n → (∀ m : Nat, m < n → formed m) → answer = some (.rosterField, n)) ∧
      (allFormed → role station = 0 → answer = some (.ownAbsent, station)) ∧
      (allFormed → role station ≠ 0 →
        ((∃ r : Nat, ¬ inLimits r) → ∃ r : Nat, ¬ inLimits r ∧ answer = some (.roleCount, r)) ∧
        ((∀ r : Nat, inLimits r) →
          (∀ n : Nat, n < 64 → cabin n ≤ 47 → shared cabin (cabin n) → (∀ v : Nat, v < cabin n → ¬ shared cabin v) →
            (∀ m : Nat, m < n → cabin m ≠ cabin n) → answer = some (.cabinIndex, n)) ∧
          ((∀ v : Nat, v ≤ 47 → ¬ shared cabin v) →
            (∀ n : Nat, n < 64 → rank n ≤ 7 → shared rank (rank n) → (∀ v : Nat, v < rank n → ¬ shared rank v) →
              (∀ m : Nat, m < n → rank m ≠ rank n) → answer = some (.rank, n)) ∧
            ((∀ v : Nat, v ≤ 7 → ¬ shared rank v) →
              (¬ marked → ∃ detail, answer = some (.noMarker, detail)) ∧
              (marked →
                (∀ k : Nat, 1 ≤ k → k ≤ 31 → ¬ fits k → (∀ j : Nat, 1 ≤ j → j < k → fits j) →
                  answer = some (.range, k)) ∧
                ((∀ k : Nat, 1 ≤ k → k ≤ 31 → fits k) → answer = none))))))) ∧
    (answer = none →
      at_ 0 = 1 ∧ crc = at_ 254 * 256 + at_ 255 ∧ allFormed ∧ role station ≠ 0 ∧ (∀ r : Nat, inLimits r) ∧
      (∀ v : Nat, v ≤ 47 → ¬ shared cabin v) ∧ (∀ v : Nat, v ≤ 7 → ¬ shared rank v) ∧ marked ∧
      ∀ k : Nat, 1 ≤ k → k ≤ 31 → fits k)

/-- A read try that fails (R176, R181), at the first of the four bytes it sends to read back a high bit low
(BUS_STUCK) or to find no acknowledge (NO_MEMORY): before the third another follows after 5 ms; the third, and an
image that fails its checks, puts the station into CONFIG_FAULT with the cause and its detail.
CONFIG_RETRY_WAIT_EXPIRY begins the next try. An image that passes is handed out, and the station enters LISTENING
(R182): the settings, the roster, the owners of the cabin records and the default selectors are those of the image;
the round timer and the marks-taken count are 0 and the first-mark mark is set; the converter runs in the mode of the
role (R144); and each role does its start-up work (R65, R102, R126, R127). The roster and the settings of a passing
image hold its bytes, a setting's default in place of FFh or FFFFh (R177, R200), the settings within the ranges of R180.
That a command with a time of its own first lets that time pass is the model's choice (log 2). The detail 0 of
NO_MEMORY, BUS_STUCK and NO_MARKER is the model's choice, and so is the first role of the table in ROLE_COUNT's (log
16); that the device address takes seven bits and its bytes are AEh and AFh is its reading (log 31). -/
def Obligations.TriesEndInListeningOrConfigFault : Prop :=
  let sent := fun r : ReadTry =>
    [((0xAE : Byte), r.writeAddress), (0x00, r.memoryHigh), (0x00, r.memoryLow), (0xAF, r.readAddress)]
  let stuck := fun b : Byte × BitVec 9 => ∃ i : Fin 8, b.1.getLsbD i.val = true ∧ b.2.getLsbD (i.val + 1) = false
  let good := fun b : Byte × BitVec 9 => ¬ stuck b ∧ b.2.getLsbD 0 = false
  (∀ s : State, s.resetHeld = false → s.mode = .loading →
    (∀ (result : ReadTry) (cause : StartCause) (before after : List (Byte × BitVec 9)) (b : Byte × BitVec 9),
      s.loader.phase = .reading → s.loader.retryWait = none → sent result = before ++ b :: after →
      (∀ x ∈ before, good x) →
      (stuck b ∧ cause = .busStuck ∨ ¬ stuck b ∧ b.2.getLsbD 0 = true ∧ cause = .noMemory) →
      ∃ t, exec (.configReadTryEnd result) s = .next t ∧
        (s.loader.tries < 3 → t.loader = { s.loader with retryWait := some (ms 5) } ∧
          State.sameBut (.loader :: followers) s t) ∧
        (3 ≤ s.loader.tries →
          t.mode = .configFault ∧
          t.loader = { s.loader with phase := .fault, cause := cause, detail := 0 } ∧
          State.sameBut (.mode :: .loader :: followers) s t)) ∧
    (∀ (result : ReadTry) (cause : StartCause) (detail : Nat),
      s.loader.phase = .reading → s.loader.retryWait = none → (∀ b ∈ sent result, good b) →
      result.bytes.length = 256 → imageFailure result.bytes s.station = some (cause, detail) →
      ∃ t, exec (.configReadTryEnd result) s = .next t ∧ t.mode = .configFault ∧
        t.loader =
          { s.loader with
            phase := .fault, cause := cause, detail := detail, image := result.bytes, version := result.bytes[0]? } ∧
        State.sameBut (.mode :: .loader :: followers) s t) ∧
    (∀ (pulses n : Nat), s.loader.retryWait = some n →
      ∃ t, exec (.configRetryWaitExpiry pulses) s = .next t ∧
        (pulses ≤ 9 →
          t.loader = { s.loader with tries := s.loader.tries + 1, retryWait := none } ∧
          State.sameBut (.loader :: followers) (s.elapse n) t) ∧
        (9 < pulses → s.loader.tries < 2 →
          t.loader = { s.loader with tries := s.loader.tries + 1, retryWait := some (ms 5) } ∧
          State.sameBut (.loader :: followers) (s.elapse n) t) ∧
        (9 < pulses → 2 ≤ s.loader.tries →
          t.mode = .configFault ∧
          t.loader =
            { s.loader with
              tries := s.loader.tries + 1, phase := .fault, cause := .busStuck, detail := 0, retryWait := none } ∧
          State.sameBut (.mode :: .loader :: followers) (s.elapse n) t))) ∧
  (∀ (s : State) (result : ReadTry), s.resetHeld = false → s.mode = .loading → s.loader.phase = .reading →
    s.loader.retryWait = none → (∀ b ∈ sent result, good b) → result.bytes.length = 256 →
    imageFailure result.bytes s.station = none →
    let image := result.bytes
    ∃ t, exec (.configReadTryEnd result) s = .next t ∧ t.mode = .listening ∧
      t.loader = { s.loader with phase := .done, image := image, version := image[0]? } ∧
      t.settings = imageSettings image ∧ t.roster = imageRoster image ∧
      t.capture =
        { s.capture with selectors := (List.range 6).map fun j => (imageSelector image j).getD none } ∧
      (∀ i : Fin 48,
        (∀ n : Nat, t.ownerOf i.val = some n → t.record i.val = CabinRecord.start n) ∧
        (t.ownerOf i.val = none → t.record i.val = CabinRecord.unused)) ∧
      t.round = { s.round with timer := 0, marksTaken := 0, firstMark := true, working := t.round.working } ∧
      t.conv.mode = (if t.role = .cabin then some .load else if t.role = .mast then some .wind else none) ∧
      (t.role = .cabin → t.conv.phase = .zeroing ∧ t.conv.timer = some (ms 80) ∧
        (s.latched = true → t.cabin = { s.cabin with phase := .away }) ∧
        (s.latched = false → t.cabin = s.cabin.faultedFrom)) ∧
      (t.role = .mast → t.conv.phase = .zeroing ∧ t.conv.timer = some (ms 20) ∧
        t.wind = { s.wind with tick := some (ms 250) }) ∧
      (t.role = .drive → s.drive = Drive.reset →
        (s.driveFaultInput = false →
          t.drive = { s.drive with brakeCheckTimer := if s.brakeReleased then some (sec 2) else none }) ∧
        (s.driveFaultInput = true → t.drive.state = .faulted ∧ t.drive.reasons = Reason.driveFault.mask)) ∧
      (t.role = .platform → s.platform = Platform.reset → ∀ gate : GateId,
        t.platform.gate gate =
          ⟨false, false, if s.gateClosed gate then none else some (sec 3)⟩) ∧
      State.sameBut
        ([.mode, .loader, .settings, .roster, .round, .replica, .conv, .capture, .cabin, .wind, .drive] ++ followers) s t) ∧
  (∀ (image : List Byte) (station : Nat), image.length = 256 → station < 64 →
    let at_ := fun i : Nat => (image.getD i 0).toNat
    let value := fun n : Nat => if n = 255 then none else some n
    let one := fun i dflt : Nat => if at_ i = 255 then dflt else at_ i
    let two := fun i dflt : Nat =>
      if at_ i * 256 + at_ (i + 1) = 65535 then dflt else at_ i * 256 + at_ (i + 1)
    let count := fun r : Nat => ((List.range 64).filter fun n => at_ (1 + 3 * n) == r).length
    let g := imageSettings image
    let answer := imageFailure image station
    (∀ detail, answer = some (.noMarker, detail) → detail = 0) ∧
    (∀ r, answer = some (.roleCount, r) →
      (1 < r → 1 ≤ count 1 ∧ count 1 ≤ 48) ∧ (2 < r → count 2 = 1) ∧ (3 < r → 1 ≤ count 3 ∧ count 3 ≤ 4) ∧
        (4 < r → 1 ≤ count 4 ∧ count 4 ≤ 3)) ∧
    (answer = none →
      (∀ n : Fin 64, ∃ e, (imageRoster image)[n.val]? = some e ∧ e.role.code.toNat = at_ (1 + 3 * n.val) ∧
        e.cabin = value (at_ (2 + 3 * n.val)) ∧ e.rank = value (at_ (3 + 3 * n.val)) ∧
        e.silentCount = 0 ∧ e.silent = false ∧ e.last = none) ∧
      { State.reset with settings := g }.SettingsSound ∧
      [200, 250, 400, 500][one 193 1]? = some g.period ∧ g.attemptLimit = one 194 10 ∧ g.silenceLimit = one 195 3 ∧
      g.silenceCabin.code.toNat = one 196 Level.creep.code.toNat ∧
      g.silencePlatform.code.toNat = one 197 Level.stop.code.toNat ∧
      g.silenceDrive.code.toNat = one 198 Level.stop.code.toNat ∧
      g.silenceMast.code.toNat = one 199 Level.stop.code.toNat ∧
      g.silenceConsole.code.toNat = one 200 Level.noLimit.code.toNat ∧ g.releaseConfirm = one 201 2 ∧
      g.stopTimeout = one 202 20 ∧ g.capacity = one 203 25 ∧ g.loadLimit = two 204 2400 ∧ g.watchGust = two 206 120 ∧
      g.watchHysteresis = two 208 20 ∧ g.watchCalmTime = two 210 60 ∧ g.holdGust = two 212 180 ∧
      g.holdSustained = two 214 140 ∧ g.releaseGust = two 216 150 ∧ g.releaseSustained = two 218 110 ∧
      g.releaseTime = two 220 300 ∧ g.creepCeiling = two 222 220 ∧ g.clearWait = two 224 600 ∧
      g.congestion = one 226 4 ∧ g.attentionCount = one 227 8 ∧ g.attentionTimer = one 228 4))

/-! ### Tap port, capture and status (chapter 11) -/

/-- The first byte received names the transaction and fixes how many argument bytes follow; it is taken at the last of
them, or at the first byte for a code that names none, and the port answers (R184, R201); bytes that come after are
ignored, and before it nothing is taken. The refusals of the tap port in their order (R185, R186, R189, R201): a
transaction that falls into a case is answered with REFUSED and its reason and acts on nothing, but that in a running
station it turns the capture switch on, unless its code is UNKNOWN (R190). A kind byte FFh and a selector number above
5 count as BAD_ARGUMENT by the model's reading (log 19), and a KEY code that names no key as WRONG_ROLE (log 43); that
the three bytes of a SET_MASK argument come high byte first is the model's choice (log 42). -/
def Obligations.TapRefusesTransactions : Prop :=
  (∀ (args more : List Byte) (a b d e : Byte),
    transactionOf [] = none ∧
    transactionOf (1 :: [a, b] ++ more) = some (.readRecord a b) ∧
    transactionOf (2 :: [a] ++ more) = some (.readClear a) ∧
    transactionOf (3 :: [a] ++ more) = some (.release a) ∧
    (∀ word : Word, transactionOf (4 :: [a, b] ++ wordBytes word ++ more) = some (.ask a b word)) ∧
    transactionOf (5 :: [a] ++ more) = some (.key a) ∧
    (∀ mask : BitVec 24, a = mask.extractLsb' 16 8 → b = mask.extractLsb' 8 8 → d = mask.extractLsb' 0 8 →
      transactionOf (6 :: [a, b, d] ++ more) = some (.setMask mask)) ∧
    transactionOf (7 :: [a, b, d, e] ++ more) = some (.setSelector a b d e) ∧
    (∀ code : Byte, code = 0 ∨ 7 < code.toNat → transactionOf (code :: more) = some (.unknownTransactionCode code)) ∧
    (∀ (code : Byte) (n : Nat),
      (code, n) ∈ [((1 : Byte), 2), (2, 1), (3, 1), (4, 4), (5, 1), (6, 3), (7, 4)] → args.length < n →
      transactionOf (code :: args) = none)) ∧
  (∀ (s : State) (bytes : List Byte) (c : Instr), s.resetHeld = false → s.tapFree = true → transactionOf bytes = some c →
    ∃ t, exec c s = .next t ∧ t.tap.phase = .answering ∧ ∃ ignored, bytes = t.tap.code :: t.tap.args ++ ignored) ∧
  ∀ (s : State) (c : Instr) (reason : Byte), s.resetHeld = false → s.tapFree = true →
    let runs := s.mode.receiving = true
    let commands := s.role = .console ∨ s.role = .platform
    let top := fun area : Byte =>
      match area.toNat with
      | 0 => 8 | 3 => 127 | 4 => 63 | 5 => 1 | 6 => 64 | 7 => 48 | 11 => 31
      | 8 => if s.role = .platform then 4 else 0
      | _ => 0
    let badSelector := fun kind sender subkind : Byte =>
      kind ≠ 0 ∧
        (¬ (kind.toNat ≤ 5 ∨ kind = 0x0E) ∨ ¬ (sender.toNat ≤ 63 ∨ sender = 0xFE) ∨
          ¬ (subkind = 0xFE ∨ kind = 3 ∧ 1 ≤ subkind.toNat ∧ subkind.toNat ≤ 13 ∨
            kind = 4 ∧ 1 ≤ subkind.toNat ∧ subkind.toNat ≤ 8))
    ((∃ code, c = .unknownTransactionCode code ∧ (code = 0 ∨ 7 < code.toNat) ∧ reason = 1) ∨
      (¬ runs ∧ reason = 2 ∧
        ((∃ area index, c = .readRecord area index ∧ area ≠ 0) ∨ (∃ area, c = .readClear area) ∨
          (∃ n, c = .release n) ∨ (∃ kind target argument, c = .ask kind target argument) ∨ (∃ code, c = .key code) ∨
          (∃ flags, c = .setMask flags) ∨ ∃ n kind sender subkind, c = .setSelector n kind sender subkind)) ∨
      (runs ∧ reason = 3 ∧
        ((∃ kind target argument, c = .ask kind target argument ∧ ¬ commands) ∨
          ∃ code : Byte, c = .key code ∧
            ¬ (s.role = .console ∧ 1 ≤ code.toNat ∧ code.toNat ≤ 4) ∧
            ¬ (s.role = .platform ∧ (code = 1 ∨ code = 2 ∨ 5 ≤ code.toNat ∧ code.toNat ≤ 9)))) ∨
      (runs ∧ reason = 4 ∧
        ((∃ area index, c = .readRecord area index ∧ 11 < area.toNat) ∨
          ∃ area : Byte, c = .readClear area ∧ ¬ (12 ≤ area.toNat ∧ area.toNat ≤ 14))) ∨
      (reason = 5 ∧ ∃ area index, c = .readRecord area index ∧ (runs ∨ area = 0) ∧ area.toNat ≤ 11 ∧
        top area < index.toNat) ∨
      (runs ∧ reason = 6 ∧
        ((∃ kind target argument, c = .ask kind target argument ∧ commands ∧
            (kind = 0 ∨ 8 < kind.toNat ∨ 63 < target.toNat)) ∨
          (∃ n, c = .release n ∧ 32 < n.toNat) ∨ (∃ flags, c = .setMask flags ∧ 65536 ≤ flags.toNat) ∨
          ∃ n kind sender subkind, c = .setSelector n kind sender subkind ∧
            (5 < n.toNat ∨ badSelector kind sender subkind)))) →
    ∃ t, exec c s = .next t ∧ t.tap.phase = .answering ∧ t.tap.answer = [0x80, reason] ∧ t.tap.pendingEnd = .nothing ∧
      t.capture = { s.capture with on := s.capture.on || (s.mode.receiving && reason != 1) } ∧
      State.sameBut ([.tap, .renewal, .capture] ++ followers) s t

/-- READ_RECORD copies the record as it stands (R154, R186, R192, section 12.4), here byte by byte the start record, the
image, LINE, ROUND, ROSTER, OWN, AGREEMENT, REPLICA, the converter, the Ask Table and a capture, and in general (HEARD
and ROLE) the area's record; an absent item has length 0. A converter read sets the read-in-progress mark and clears
the stale marker; no other read changes anything but the port and the capture switch. READ_CLEAR shows the STATUS, the
COUNTERS or the CAUSES area, laid out as section 12.4 gives them, and clears nothing before the end of its answer
(R187). The order and the presence bytes of a record that section 12.4 does not lay out in full are the model's reading
of it (log 11); the code of a holder's source is left open (log 12), and SILENT in the first of the three bytes of a
reasons set is the model's choice (log 42), as is FFh for an UNKNOWN occupancy in a record (log 44). In CONFIG_FAULT the port's record of
the converter shows phase IDLE, mode none and the result record absent (R155); a read of it is refused, as R175, R181
and R185 have it, and the start record answers with the loader phase FAULT, which a station shows just while its
converter stands so. That R155's words mean this and no answered read is the model's choice (log 37). -/
def Obligations.ReadsShowTheRecords : Prop :=
  (∀ (s : State) (area index : Byte) (a : Area), s.resetHeld = false → s.tapFree = true → Area.ofCode area = some a →
    (s.mode.receiving = true ∨ a = .start) → index.toNat ≤ (a.top s.role).getD 0 → (a.top s.role).isSome →
    let i := index.toNat
    let answered := fun (t : State) (record : List Byte) =>
      t.tap.answer = 0 :: BitVec.ofNat 8 record.length :: record ∧ t.tap.pendingEnd = .nothing
    let bit := fun b : Bool => if b then (1 : Byte) else 0
    let one := fun n : Nat => BitVec.ofNat 8 n
    let known := fun n : Option Nat => n.elim ([0] : List Byte) fun x => [1, one x]
    ∃ t, exec (.readRecord area index) s = .next t ∧ t.tap.phase = .answering ∧
      t.capture = { s.capture with on := s.capture.on || s.mode.receiving } ∧
      (a = .start → i = 0 →
        answered t
          ([s.loader.phase.code, BitVec.ofNat 8 s.station, BitVec.ofNat 8 s.loader.tries] ++
            (match s.loader.version with
              | none => [0]
              | some v => [1, v]) ++
            [s.loader.cause.code, BitVec.ofNat 8 (s.loader.detail / 256), BitVec.ofNat 8 s.loader.detail])) ∧
      (a = .start → 1 ≤ i → s.loader.image.length = 256 →
        ∃ before record after, s.loader.image = before ++ record ++ after ∧ before.length = 32 * (i - 1) ∧
          record.length = 32 ∧ t.tap.answer = 0 :: 32 :: record) ∧
      (a = .capture → s.CaptureSound →
        (s.capture.readers ≤ i → answered t []) ∧
        (i < s.capture.readers →
          ∃ x, s.capture.slots[(s.capture.releasePlace + i) % 32]? = some ⟨true, x⟩ ∧
            answered t
              (wordBytes x.sequence ++
                [x.round, x.header, x.sender, if x.own then 1 else 0, BitVec.ofNat 8 x.body.length] ++ x.body))) ∧
      (a = .converter →
        t.conv = { s.conv with reading := true, stale := false } ∧
        t.tap.pendingEnd = .converter s.conv.record.isSome ∧
        t.tap.answer =
          (match s.conv.record with
            | none => [0, 4, s.conv.phase.code, (s.conv.mode.map ConvMode.code).getD 0, 0]
            | some r =>
              [0, 9, s.conv.phase.code, (s.conv.mode.map ConvMode.code).getD 0, 1] ++ twoBytes r.count ++
                [(if r.polarity = .negative then 1 else 0) + (if r.overrange then 2 else 0), r.mode.code, r.sequence])) ∧
      (a = .line →
        answered t
          ([s.mode.code, one s.line.isoScore, one s.line.isoCount, bit s.line.peersCongested, one s.line.queue.length] ++
            s.line.queue.flatMap fun e =>
              [(FrameClass.kind e.cls).code, e.cls.code, one e.attempts, bit (e.backoff.any (0 < ·))])) ∧
      (a = .round →
        answered t
          ([s.round.number] ++ twoBytes (s.round.timer / ms 10) ++ known s.rank ++
            [one s.round.marksTaken, bit s.round.firstMark, bit s.round.roundLost])) ∧
      (∀ e, a = .roster → s.roster[i]? = some e →
        answered t
          ([e.role.code] ++ known e.cabin ++ known e.rank ++ [one e.silentCount, bit e.silent] ++
            (match e.last with
              | none => [0, 0, 0]
              | some b => [1, b.vote, 1] ++ wordBytes b.reasons ++ [1, b.role.code] ++ b.fields))) ∧
      (a = .own →
        (i = 0 →
          answered t
            (s.round.working.vote :: wordBytes s.round.working.reasons ++ [s.round.working.role.code] ++
              s.round.working.fields)) ∧
        (i = 1 → s.round.published = none → answered t []) ∧
        (∀ p, i = 1 → s.round.published = some p →
          answered t
            (p.body.vote :: wordBytes p.body.reasons ++ [p.body.role.code] ++ p.body.fields ++
              [bit p.congested, p.round]))) ∧
      (a = .agreement →
        (i = 0 →
          answered t
            ([s.agreement.level.code] ++ (s.agreement.roundClosed.elim [0] fun r => [1, r]) ++
              [bit s.agreement.silentReason] ++ wordBytes s.agreement.reasons ++
              [bit s.agreement.skew, one s.agreement.holders.length])) ∧
        (s.agreement.holders.length < i → answered t []) ∧
        (∀ h, 1 ≤ i → s.agreement.holders[i - 1]? = some h →
          answered t ([one h.station, Config.voteSourceCode h.source] ++ wordBytes h.reasons ++ [bit h.silent]))) ∧
      (a = .replica →
        (∀ x, i < 48 → s.replica.records[i]? = some x →
          answered t
            (known x.owner ++ [x.phase.code, x.marker.code, one (x.occupancy.getD 255)] ++
              (x.load.elim [0] fun n => 1 :: twoBytes n) ++ [bit x.latched, bit x.dwell, x.vote.code] ++
              (x.lastRound.elim [0] fun r => [1, r]) ++
              [one x.freshness, bit (s.aged x), one ((s.readOccupancy x).getD 255)])) ∧
        (i = 48 → answered t ([one s.occupiedCount] ++ wordBytes s.digest ++ [bit s.replica.divergence]))) ∧
      (a = .asks →
        t.tap.pendingEnd = .asks s.asks.lateReply ∧
        (let record :=
          (s.asks.entries.flatMap fun e =>
            if e.state = .free then [e.state.code]
            else
              [e.state.code, e.origin.code, e.kind.code, one e.target] ++ wordBytes e.argument ++ [one e.tag, one e.marks] ++
                (e.accepted.elim [0] fun ok => [1, bit (!ok)]) ++ (e.reason.elim [0] fun r => [1, r.code])) ++
            one s.asks.tagCounter :: twoBytes s.asks.lateReply
         t.tap.answer = 0 :: BitVec.ofNat 8 record.length :: record)) ∧
      (a ≠ .converter → a ≠ .asks → answered t (s.areaRecord a i)) ∧
      (a ≠ .converter → t.conv = s.conv) ∧
      State.sameBut ([.tap, .renewal, .capture, .conv] ++ followers) s t) ∧
  (∀ s : State, s.running → s.tapFree = true → s.CountersSound →
    let bit := fun (b : Bool) (n : Nat) => if b then BitVec.ofNat 8 n else (0 : Byte)
    let u := s.status
    let taken := fun (t : State) (ending : TapEnd) (record : List Byte) =>
      t.tap.phase = .answering ∧ t.tap.pendingEnd = ending ∧
        t.tap.answer = 0 :: BitVec.ofNat 8 record.length :: record ∧
        t.capture = { s.capture with on := true } ∧ State.sameBut ([.tap, .renewal, .capture] ++ followers) s t
    (∃ t, exec (.readClear 0x0C) s = .next t ∧
      taken t (.status u.flags) (wordBytes u.flags ++ wordBytes u.mask)) ∧
    (∃ t, exec (.readClear 0x0D) s = .next t ∧
      taken t (.counters u.counters) (u.counters.flatMap fun n => [BitVec.ofNat 8 (n / 256), BitVec.ofNat 8 n])) ∧
    (∃ t, exec (.readClear 0x0E) s = .next t ∧
      taken t (.causes u.causes u.newCaptures)
        ((bit u.causes.captureCount 1 + bit u.causes.captureTimer 2 + bit u.causes.flag 4 + bit u.causes.counter 8) ::
          wordBytes u.flagDetail ++ wordBytes u.counterDetail ++
          [BitVec.ofNat 8 u.newCaptures, BitVec.ofNat 8 (u.attnTimer.getD 0)]))) ∧
  (∀ s : State, s.resetHeld = false → s.tapFree = true → s.StartSound → s.LoaderSound →
    let standsIdle := fun u : State => u.conv.phase = .idle ∧ u.conv.mode = none ∧ u.conv.record = none
    (s.mode = .configFault →
      s.areaRecord .converter 0 = [0, 0, 0] ∧
      (∃ t, exec (.readRecord 0x09 0) s = .next t ∧ t.tap.answer = [0x80, 2] ∧ standsIdle t) ∧
      ∃ t, exec (.readRecord 0x00 0) s = .next t ∧ t.tap.answer[2]? = some 3 ∧ standsIdle t) ∧
    (∀ t, exec (.readRecord 0x00 0) s = .next t → t.tap.answer[2]? = some 3 →
      t.mode = .configFault ∧ standsIdle t))

/-- The end of an answer and of a selection (R154, R164, R184, R187, R197): what a read-and-clear has shown is cleared
but for what was renewed, counters and counts being lowered by the value shown; a converter read adds its status byte;
a read cut short clears nothing. TAP_DO gives the answer's bytes one after the other, and FFh after them. A flag set
while a STATUS read is in progress is renewed. That the status byte of a converter read is worked out at the end of
the answer is the model's choice (log 23). -/
def Obligations.AnswerEndsAndClears : Prop :=
  ∀ s : State, s.resetHeld = false →
    (s.tap.phase = .answering →
      ∃ t, exec .answerComplete s = .next t ∧ t.tap.phase = .done ∧ t.tap.pendingEnd = .nothing ∧
        (∀ k : Nat,
          (∀ b, s.tap.answer[k]? = some b → s.tapOut k = some b) ∧
          (∀ b, t.tap.answer[k]? = some b → t.tapOut k = some b) ∧
          (t.tap.answer.length ≤ k → s.tapOut k = some 0xFF ∧ t.tapOut k = some 0xFF)) ∧
        (s.tap.pendingEnd = .nothing →
          t.tap.answer = s.tap.answer ∧ State.sameBut ([.tap, .renewal] ++ followers) s t) ∧
        (∀ shown, s.tap.pendingEnd = .status shown →
          (∀ f : Flag, t.flag f =
            (s.flag f && (shown &&& f.mask == 0 || s.tap.renewedFlags &&& f.mask != 0))) ∧
          t.status.mask = s.status.mask ∧ State.sameBut ([.tap, .renewal, .flags] ++ followers) s t) ∧
        (∀ shown : List Nat, s.tap.pendingEnd = .counters shown → shown.length = 14 → s.status.counters.length = 14 →
          (∀ c : Counter, t.counter c = s.counter c - shown.getD c.index 0) ∧
          State.sameBut ([.tap, .renewal, .counters] ++ followers) s t) ∧
        (∀ (shown : Causes) (count : Nat), s.tap.pendingEnd = .causes shown count →
          let now := s.status.causes
          let again := s.tap.renewedCauses
          t.status.causes =
            ⟨now.captureCount && (!shown.captureCount || again.captureCount),
              now.captureTimer && (!shown.captureTimer || again.captureTimer),
              now.flag && (!shown.flag || again.flag), now.counter && (!shown.counter || again.counter)⟩ ∧
          t.status.newCaptures = s.status.newCaptures - count ∧
          t.status.attnTimer =
            (if 0 < t.status.newCaptures ∧ t.status.causes.captureCount = false ∧ t.status.causes.captureTimer = false then
              some 0
            else none) ∧
          State.sameBut ([.tap, .renewal, .attention] ++ followers) s t) ∧
        (∀ present, s.tap.pendingEnd = .converter present →
          t.tap.answer = s.tap.answer ++ [(if s.conv.stale then 1 else 0) + (if present then 2 else 0)] ∧
          t.conv = { s.conv with reading := false, stale := false } ∧
          State.sameBut ([.tap, .renewal, .conv] ++ followers) s t) ∧
        (∀ late, s.tap.pendingEnd = .asks late →
          t.asks = { s.asks with lateReply := s.asks.lateReply - late } ∧
          State.sameBut ([.tap, .renewal, .asks] ++ followers) s t)) ∧
    (s.tap.phase ≠ .idle →
      ∃ t, exec .selectionEnd s = .next t ∧ t.tap = Tap.reset ∧ (∀ k, t.tapOut k = none) ∧
        (∀ present, s.tap.pendingEnd = .converter present → t.conv = { s.conv with reading := false }) ∧
        ((∀ present, s.tap.pendingEnd ≠ .converter present) → t.conv = s.conv) ∧
        State.sameBut ([.tap, .renewal, .conv] ++ followers) s t) ∧
    (∀ (shown : Word) (f : Flag), s.tap.pendingEnd = .status shown → (s.setFlag f).tap.renewedFlags &&& f.mask ≠ 0)

/-- RELEASE, SET_MASK and SET_SELECTOR (R189, R190, R192): the oldest READER slots return to DEVICE, as many as there
are, and the indices of the others move down; the mask is replaced, by none for a SET_MASK that names no flag (the
model's reading, log 32); a selector is replaced, or made unused by kind 0. A KEY transaction acts exactly as the
named key's input becoming active (R170, R188): the two leave the same state but for the tap port, the capture switch
and the filter of the input, and it is answered DONE. -/
def Obligations.ReleaseMaskSelectorAndKey : Prop :=
  (∀ s : State, s.running → s.tapFree = true →
    (∀ n : Byte, n.toNat ≤ 32 → s.CaptureSound →
      ∃ t, exec (.release n) s = .next t ∧
        (let returned := min n.toNat s.capture.readers
         t.tap.answer = [0, BitVec.ofNat 8 returned] ∧ t.capture.readers = s.capture.readers - returned ∧
         t.capture.devices = s.capture.devices + returned ∧
         (∀ k : Nat, t.capture.reading k = s.capture.reading (k + returned)) ∧
         t.capture.writePlace = s.capture.writePlace ∧ t.capture.sequence = s.capture.sequence) ∧
        State.sameBut ([.tap, .renewal, .capture] ++ followers) s t) ∧
    (∀ flags : BitVec 24, flags.toNat < 65536 →
      ∃ t, exec (.setMask flags) s = .next t ∧ t.tap.answer = [0] ∧ t.status.mask.toNat = flags.toNat ∧
        t.status.flags = s.status.flags ∧ t.capture = { s.capture with on := true } ∧
        State.sameBut ([.tap, .renewal, .capture, .flags] ++ followers) s t) ∧
    (∀ (n kind sender subkind : Byte) (k : Option FrameKind), n.toNat ≤ 5 → s.capture.selectors.length = 6 →
      (kind = 0x0E ∧ k = none ∨ ∃ x : FrameKind, kind = x.code ∧ k = some x) →
      (sender.toNat ≤ 63 ∨ sender = 0xFE) →
      (subkind = 0xFE ∨ k = some .notice ∧ 1 ≤ subkind.toNat ∧ subkind.toNat ≤ 13 ∨
        k = some .ask ∧ 1 ≤ subkind.toNat ∧ subkind.toNat ≤ 8) →
      ∃ t, exec (.setSelector n kind sender subkind) s = .next t ∧ t.tap.answer = [0] ∧
        t.capture.selectors[n.toNat]? =
          some (some ⟨k, if sender = 0xFE then none else some sender.toNat,
            if subkind = 0xFE then none else some subkind.toNat⟩) ∧
        (∀ j : Nat, j ≠ n.toNat → t.capture.selectors[j]? = s.capture.selectors[j]?) ∧
        t.capture = { s.capture with on := true, selectors := t.capture.selectors } ∧
        State.sameBut ([.tap, .renewal, .capture] ++ followers) s t) ∧
    (∀ n sender subkind : Byte, n.toNat ≤ 5 → s.capture.selectors.length = 6 →
      ∃ t, exec (.setSelector n 0 sender subkind) s = .next t ∧ t.tap.answer = [0] ∧
        t.capture = { s.capture with on := true, selectors := s.capture.selectors.set n.toNat none } ∧
        State.sameBut ([.tap, .renewal, .capture] ++ followers) s t)) ∧
  (∀ (s : State) (code : Byte) (c : Instr), s.running → s.tapFree = true → s.steadyFor c →
    (s.role = .console ∧
        (code = 1 ∧ c = .consoleKeyStop ∨ code = 2 ∧ c = .consoleKeyResume ∨ code = 3 ∧ c = .keyEvac ∨
          code = 4 ∧ c = .keyEvacEnd) ∨
      s.role = .platform ∧
        (code = 1 ∧ c = .keyStop ∨ code = 2 ∧ c = .keyResume ∨ code = 5 ∧ c = .keyBoardOpen ∨
          code = 6 ∧ c = .keyBoardShut ∨ code = 7 ∧ c = .keyDwell ∨ code = 8 ∧ c = .keyDwellEnd ∨
          code = 9 ∧ c = .keyZoneClear)) →
    ∃ t t', exec (.key code) s = .next t ∧ exec c s = .next t' ∧ t.tap.phase = .answering ∧ t.tap.answer = [0] ∧
      t.capture = { t'.capture with on := true } ∧ State.sameBut [.filter, .tap, .renewal, .capture] t' t)

/-- A frame that has passed the reception checks, whatever the two remaining checks decide, and a frame sent, is offered
to the Capture Store, the latter with its own flag (R9, R22, R191): with the capture switch on, and no selector in use
or one of those in use matching it in kind, sender and subkind, it takes the next sequence number, and is written at the
write place where a DEVICE slot is left, with what `State.noteCapture` makes of the new-capture count, the attention
causes and the attention timer (R191, R197); else CAPTURE_DROPS and CAPTURE_FULL show the loss. Only a mark's own
congested decision changes the store besides. That a command with a time of its own first lets that time pass is the
model's choice (log 2, log 22), and so is that an own MARK is captured before the work of the mark it makes (log 41).
That a break after a frame's last byte leaves the frame as it is, is the model's choice (log 45). -/
def Obligations.FramesAreCaptured : Prop :=
  (∀ (s : State) (header sender round : Byte) (body : List Byte) (own : Bool),
    s.CountersSound → s.CaptureSound →
    let t := s.offerCapture header sender round body own
    let isKind := fun k : FrameKind =>
      k = .mark ∧ header = 0x11 ∨ k = .state ∧ header = 0x23 ∨ k = .notice ∧ (header = 0x35 ∨ header = 0x36) ∨
        k = .ask ∧ header = 0x44 ∨ k = .reply ∧ header = 0x52
    let isSubkind := fun n : Nat =>
      (header = 0x35 ∨ header = 0x36) ∧ n = (byteAt body 0).toNat ∨ header = 0x44 ∧ n = (byteAt body 1).toNat
    let matching := fun x : Selector =>
      (∀ k, x.kind = some k → isKind k) ∧ (∀ n, x.sender = some n → n = sender.toNat) ∧
        ∀ n, x.subkind = some n → isSubkind n
    let wanted := (∀ x ∈ s.capture.selectors, x = none) ∨ ∃ x, some x ∈ s.capture.selectors ∧ matching x
    (s.capture.on = false ∨ ¬ wanted → t = s) ∧
    (s.capture.on = true → wanted →
      t.capture.sequence = s.capture.sequence + 1 ∧
      (0 < s.capture.devices →
        t.capture.slots[s.capture.writePlace]? = some ⟨true, ⟨s.capture.sequence, round, header, sender, own, body⟩⟩ ∧
        (∀ k : Nat, k ≠ s.capture.writePlace → t.capture.slots[k]? = s.capture.slots[k]?) ∧
        t.capture.writePlace = (s.capture.writePlace + 1) % 32 ∧ t.capture.releasePlace = s.capture.releasePlace ∧
        t.status = s.noteCapture.status ∧ t.tap = s.noteCapture.tap ∧
        State.sameBut [.capture, .attention, .renewal] s t) ∧
      (s.capture.devices = 0 →
        t.capture = { s.capture with sequence := s.capture.sequence + 1 } ∧ State.counted .captureDrops s t ∧
        State.flagged .captureFull s t ∧ State.sameBut (.capture :: statusParts) s t))) ∧
  (∀ (s₀ s : State) (bits : List LineBit) (f : Frame),
    s₀.atFrameEnd bits s → s.hearing → f.carriedBy bits → f.passes →
    let offered := s.offerCapture f.header f.sender f.round f.body false
    ∃ t, exec (.frameReception bits) s₀ = .next t ∧ t.status.newCaptures = offered.status.newCaptures ∧
      t.capture = { offered.capture with congested := t.capture.congested } ∧
      (f.header ≠ classHeader .mark →
        t.capture = offered.capture ∧ t.status.attnTimer = offered.status.attnTimer ∧
          t.status.causes.captureCount = offered.status.causes.captureCount ∧
          t.status.causes.captureTimer = offered.status.causes.captureTimer)) ∧
  (∀ (s : State) (place : Nat) (e : TxEntry) (a : Attempt),
    s.resetHeld = false → s.sendingEntry = some (place, e, a) →
    let f := Frame.ofBytes (a.frame.drop 1)
    let offered := s.offerCapture f.header f.sender f.round f.body true
    ∃ t, exec (.transmissionSuccess (lineBits a.frame)) s = .next t ∧ t.status.newCaptures = offered.status.newCaptures ∧
      t.capture = { offered.capture with congested := t.capture.congested } ∧
      (e.cls ≠ .mark →
        t.capture = offered.capture ∧ t.status.attnTimer = offered.status.attnTimer ∧
          t.status.causes.captureCount = offered.status.causes.captureCount ∧
          t.status.causes.captureTimer = offered.status.causes.captureTimer))

/-- The lines and the causes (R194 to R197): FAULT_N is high just in LISTENING, JOINED and ISOLATED with no unmasked
flag set; ATTN in a running station with a cause latched. A flag that is not masked latches FLAG as it is set; a counter
that comes to 32768 latches COUNTER; and the three latchings stand as commands of their own. Flags and the attention
timer at a mark (R194, R197): a flag last set before the mark is cleared by it, unless the mark's own work sets it; and
the attention timer counts the mark while captures wait and no capture cause is latched, and latches CAPTURE_TIMER on
reaching its setting. The MARK's own frame is captured first, so that the captures and the timer are those of `offered`,
the state after its capture (R12, R191); for an own MARK that order is the model's choice (log 41). The marks for flags
set in a step and for a counter at half scale are the model's (log 7, log 25). A frame heard takes its time first, by
the model's choice (log 22). That a break after a frame's last byte leaves the frame as it is, is the model's choice
(log 45). -/
def Obligations.FlagsCausesAndLines : Prop :=
  (∀ s : State,
    (s.faultN = true ↔
      (s.mode = .listening ∨ s.mode = .joined ∨ s.mode = .isolated) ∧
        ∀ f : Flag, s.flag f = true → s.status.mask &&& f.mask ≠ 0) ∧
    (s.attn = true ↔ s.mode.receiving = true ∧
      (s.status.causes.captureCount = true ∨ s.status.causes.captureTimer = true ∨ s.status.causes.flag = true ∨
        s.status.causes.counter = true)) ∧
    (∀ f : Flag, State.flagged f s (s.setFlag f) ∧
      (s.status.mask &&& f.mask = 0 →
        (s.setFlag f).status.causes = { s.status.causes with flag := true } ∧
          (s.setFlag f).status.flagDetail = s.status.flagDetail ||| f.mask) ∧
      (s.status.mask &&& f.mask ≠ 0 → (s.setFlag f).status.causes = s.status.causes) ∧
      State.sameBut [.flags, .attention, .renewal] s (s.setFlag f)) ∧
    (∀ c : Counter, s.CountersSound →
      State.counted c s (s.bump c) ∧
      (s.counter c = 32767 →
        (s.bump c).status.causes = { s.status.causes with counter := true } ∧
          (s.bump c).status.counterDetail = s.status.counterDetail ||| c.mask) ∧
      (s.counter c ≠ 32767 → (s.bump c).status.causes = s.status.causes) ∧
      State.sameBut [.counters, .attention, .renewal] s (s.bump c)) ∧
    (s.status.newCaptures < 255 →
      let t := s.noteCapture
      t.status.newCaptures = s.status.newCaptures + 1 ∧
      (s.settings.attentionCount ≤ s.status.newCaptures + 1 →
        t.status.causes = { s.status.causes with captureCount := true } ∧ t.status.attnTimer = none) ∧
      (s.status.newCaptures + 1 < s.settings.attentionCount → t.status.causes = s.status.causes ∧
        (s.status.newCaptures = 0 → s.status.causes.captureCount = false → s.status.causes.captureTimer = false →
          t.status.attnTimer = some 0)) ∧
      State.sameBut [.attention, .renewal] s t) ∧
    (255 ≤ s.status.newCaptures → s.noteCapture = s) ∧
    (s.running →
      (s.settings.attentionCount ≤ s.status.newCaptures → s.status.causes.captureCount = false →
        ∃ t, exec .captureCountReached s = .next t ∧
          t.status.causes = { s.status.causes with captureCount := true } ∧ t.status.attnTimer = none ∧
          State.sameBut ([.attention, .renewal] ++ followers) s t) ∧
      (∀ n, s.status.attnTimer = some n → s.settings.attentionTimer ≤ n →
        ∃ t, exec .attentionTimerExpiry s = .next t ∧
          t.status.causes = { s.status.causes with captureTimer := true } ∧ t.status.attnTimer = none ∧
          State.sameBut ([.attention, .renewal] ++ followers) s t) ∧
      (∀ c : Counter, s.status.halfDue &&& c.mask ≠ 0 →
        ∃ t, exec (.counterHalfScale c) s = .next t ∧
          t.status.causes = { s.status.causes with counter := true } ∧
          t.status.counterDetail = s.status.counterDetail ||| c.mask ∧
          State.sameBut ([.attention, .renewal] ++ followers) s t))) ∧
  (∀ (c : Instr) (s u : State) (number : Byte) (heard : Option (List Byte)), s.takesMark c u number heard →
    s.FollowersSound →
    ∃ t, exec c s = .next t ∧
      (∀ f : Flag,
        (f = .crc ∨ f = .runtLong ∨ f = .format ∨ f = .excessAttempts ∨ f = .lateCollision ∨ f = .earlyMark ∨
          f = .roundLoss ∨ f = .stranger ∨ f = .noTarget) → t.flag f = false)) ∧
  (∀ (s u : State) (bits : List LineBit) (f : Frame), s.atFrameEnd bits u → f.acceptedBy bits s →
    f.header = classHeader .mark → (s.entryAt f.sender.toNat).rank ≠ none →
    (u.round.firstMark = true ∨ u.settings.periodTime / 2 ≤ u.round.timer) →
    ∃ t, exec (.frameReception bits) s = .next t ∧
      State.attentionCounted (u.offerCapture f.header f.sender f.round f.body false) t) ∧
  (∀ (s u : State) (place : Nat) (e : TxEntry) (a : Attempt), s.resetHeld = false → s.mode = .joined →
    s.sendingEntry = some (place, e, a) → e.cls = .mark → u = s.elapse (10 * a.frame.length - a.elapsed) →
    let f := Frame.ofBytes (a.frame.drop 1)
    ∃ t, exec (.transmissionSuccess (lineBits a.frame)) s = .next t ∧
      State.attentionCounted (u.offerCapture f.header f.sender f.round f.body true) t)

/-- The tables keep their sizes, the settings their ranges and the counters theirs at every step, and until an image
is taken every block stands at its start values (R34, R39, R66, R175, R180, R181, R196, R197). The loader phase is FAULT just
while the station is in CONFIG_FAULT (R181). The capture ring stays
sound at every step: the READER slots are the run from the release place up to the write place (R190). -/
def Obligations.EveryStepKeepsTablesSettingsCountersAndCaptures : Prop :=
  (∀ s t : State, step s = .next t →
    (s.TablesSound → t.TablesSound) ∧ (s.SettingsSound → t.SettingsSound) ∧ (s.CountersSound → t.CountersSound) ∧
    (s.StartSound → t.StartSound) ∧ (s.LoaderSound → t.LoaderSound)) ∧
  (∀ s t : State, s.CaptureSound → step s = .next t → t.CaptureSound)

/-- Everything that the steps keep holds right after reset. -/
def Obligations.EverythingIsSoundAtReset : Prop :=
  State.reset.QueueSound ∧ State.reset.AgreementSound ∧ State.reset.DriveSound ∧ State.reset.CabinSound ∧
    State.reset.ZoneSound ∧ State.reset.AsksSound ∧ State.reset.WindSound ∧ State.reset.ConverterSound ∧
    State.reset.CaptureSound ∧ State.reset.CountersSound ∧ State.reset.TablesSound ∧ State.reset.SettingsSound ∧
    State.reset.FollowersSound ∧ State.reset.StartSound ∧ State.reset.LoaderSound
end

