-- ==== Sys2Proof/Laws/State.lean ====
section
/-! SUPPORT. One lemma per field and update of Machine/Update.lean, so that no later proof unfolds a record update. -/

namespace Sys2Proof.Machine

set_option Elab.async false

/-! ### Mode and roster -/

@[simp] theorem State.setMode_fi (s : State) (m : Mode) : (s.setMode m).fi = s.fi := rfl
@[simp] theorem State.setMode_filter (s : State) (m : Mode) : (s.setMode m).filter = s.filter := rfl
@[simp] theorem State.setMode_resetHeld (s : State) (m : Mode) : (s.setMode m).resetHeld = s.resetHeld := rfl
@[simp] theorem State.setMode_pending (s : State) (m : Mode) : (s.setMode m).pending = s.pending := rfl
@[simp] theorem State.setMode_mode (s : State) (m : Mode) : (s.setMode m).mode = m := rfl
@[simp] theorem State.setMode_station (s : State) (m : Mode) : (s.setMode m).station = s.station := rfl
@[simp] theorem State.setMode_loader (s : State) (m : Mode) : (s.setMode m).loader = s.loader := rfl
@[simp] theorem State.setMode_settings (s : State) (m : Mode) : (s.setMode m).settings = s.settings := rfl
@[simp] theorem State.setMode_roster (s : State) (m : Mode) : (s.setMode m).roster = s.roster := rfl
@[simp] theorem State.setMode_line (s : State) (m : Mode) : (s.setMode m).line = s.line := rfl
@[simp] theorem State.setMode_round (s : State) (m : Mode) : (s.setMode m).round = s.round := rfl
@[simp] theorem State.setMode_agreement (s : State) (m : Mode) : (s.setMode m).agreement = s.agreement := rfl
@[simp] theorem State.setMode_drive (s : State) (m : Mode) : (s.setMode m).drive = s.drive := rfl
@[simp] theorem State.setMode_replica (s : State) (m : Mode) : (s.setMode m).replica = s.replica := rfl
@[simp] theorem State.setMode_cabin (s : State) (m : Mode) : (s.setMode m).cabin = s.cabin := rfl
@[simp] theorem State.setMode_platform (s : State) (m : Mode) : (s.setMode m).platform = s.platform := rfl
@[simp] theorem State.setMode_wind (s : State) (m : Mode) : (s.setMode m).wind = s.wind := rfl
@[simp] theorem State.setMode_conv (s : State) (m : Mode) : (s.setMode m).conv = s.conv := rfl
@[simp] theorem State.setMode_asks (s : State) (m : Mode) : (s.setMode m).asks = s.asks := rfl
@[simp] theorem State.setMode_console (s : State) (m : Mode) : (s.setMode m).console = s.console := rfl
@[simp] theorem State.setMode_tap (s : State) (m : Mode) : (s.setMode m).tap = s.tap := rfl
@[simp] theorem State.setMode_capture (s : State) (m : Mode) : (s.setMode m).capture = s.capture := rfl
@[simp] theorem State.setMode_status (s : State) (m : Mode) : (s.setMode m).status = s.status := rfl

@[simp] theorem State.modRoster_fi (s : State) (f : List RosterEntry → List RosterEntry) :
    (s.modRoster f).fi = s.fi := rfl
@[simp] theorem State.modRoster_filter (s : State) (f : List RosterEntry → List RosterEntry) :
    (s.modRoster f).filter = s.filter := rfl
@[simp] theorem State.modRoster_resetHeld (s : State) (f : List RosterEntry → List RosterEntry) :
    (s.modRoster f).resetHeld = s.resetHeld := rfl
@[simp] theorem State.modRoster_pending (s : State) (f : List RosterEntry → List RosterEntry) :
    (s.modRoster f).pending = s.pending := rfl
@[simp] theorem State.modRoster_mode (s : State) (f : List RosterEntry → List RosterEntry) :
    (s.modRoster f).mode = s.mode := rfl
@[simp] theorem State.modRoster_station (s : State) (f : List RosterEntry → List RosterEntry) :
    (s.modRoster f).station = s.station := rfl
@[simp] theorem State.modRoster_loader (s : State) (f : List RosterEntry → List RosterEntry) :
    (s.modRoster f).loader = s.loader := rfl
@[simp] theorem State.modRoster_settings (s : State) (f : List RosterEntry → List RosterEntry) :
    (s.modRoster f).settings = s.settings := rfl
@[simp] theorem State.modRoster_roster (s : State) (f : List RosterEntry → List RosterEntry) :
    (s.modRoster f).roster = f s.roster := rfl
@[simp] theorem State.modRoster_line (s : State) (f : List RosterEntry → List RosterEntry) :
    (s.modRoster f).line = s.line := rfl
@[simp] theorem State.modRoster_round (s : State) (f : List RosterEntry → List RosterEntry) :
    (s.modRoster f).round = s.round := rfl
@[simp] theorem State.modRoster_agreement (s : State) (f : List RosterEntry → List RosterEntry) :
    (s.modRoster f).agreement = s.agreement := rfl
@[simp] theorem State.modRoster_drive (s : State) (f : List RosterEntry → List RosterEntry) :
    (s.modRoster f).drive = s.drive := rfl
@[simp] theorem State.modRoster_replica (s : State) (f : List RosterEntry → List RosterEntry) :
    (s.modRoster f).replica = s.replica := rfl
@[simp] theorem State.modRoster_cabin (s : State) (f : List RosterEntry → List RosterEntry) :
    (s.modRoster f).cabin = s.cabin := rfl
@[simp] theorem State.modRoster_platform (s : State) (f : List RosterEntry → List RosterEntry) :
    (s.modRoster f).platform = s.platform := rfl
@[simp] theorem State.modRoster_wind (s : State) (f : List RosterEntry → List RosterEntry) :
    (s.modRoster f).wind = s.wind := rfl
@[simp] theorem State.modRoster_conv (s : State) (f : List RosterEntry → List RosterEntry) :
    (s.modRoster f).conv = s.conv := rfl
@[simp] theorem State.modRoster_asks (s : State) (f : List RosterEntry → List RosterEntry) :
    (s.modRoster f).asks = s.asks := rfl
@[simp] theorem State.modRoster_console (s : State) (f : List RosterEntry → List RosterEntry) :
    (s.modRoster f).console = s.console := rfl
@[simp] theorem State.modRoster_tap (s : State) (f : List RosterEntry → List RosterEntry) :
    (s.modRoster f).tap = s.tap := rfl
@[simp] theorem State.modRoster_capture (s : State) (f : List RosterEntry → List RosterEntry) :
    (s.modRoster f).capture = s.capture := rfl
@[simp] theorem State.modRoster_status (s : State) (f : List RosterEntry → List RosterEntry) :
    (s.modRoster f).status = s.status := rfl

/-! ### Field inputs -/

@[simp] theorem State.setFi_filter (s : State) (n : Nat) (level : Bool) : (s.setFi n level).filter = s.filter := rfl
@[simp] theorem State.setFi_resetHeld (s : State) (n : Nat) (level : Bool) :
    (s.setFi n level).resetHeld = s.resetHeld := rfl
@[simp] theorem State.setFi_pending (s : State) (n : Nat) (level : Bool) : (s.setFi n level).pending = s.pending := rfl
@[simp] theorem State.setFi_mode (s : State) (n : Nat) (level : Bool) : (s.setFi n level).mode = s.mode := rfl
@[simp] theorem State.setFi_station (s : State) (n : Nat) (level : Bool) : (s.setFi n level).station = s.station := rfl
@[simp] theorem State.setFi_loader (s : State) (n : Nat) (level : Bool) : (s.setFi n level).loader = s.loader := rfl
@[simp] theorem State.setFi_settings (s : State) (n : Nat) (level : Bool) :
    (s.setFi n level).settings = s.settings := rfl
@[simp] theorem State.setFi_roster (s : State) (n : Nat) (level : Bool) : (s.setFi n level).roster = s.roster := rfl
@[simp] theorem State.setFi_line (s : State) (n : Nat) (level : Bool) : (s.setFi n level).line = s.line := rfl
@[simp] theorem State.setFi_round (s : State) (n : Nat) (level : Bool) : (s.setFi n level).round = s.round := rfl
@[simp] theorem State.setFi_agreement (s : State) (n : Nat) (level : Bool) :
    (s.setFi n level).agreement = s.agreement := rfl
@[simp] theorem State.setFi_drive (s : State) (n : Nat) (level : Bool) : (s.setFi n level).drive = s.drive := rfl
@[simp] theorem State.setFi_replica (s : State) (n : Nat) (level : Bool) : (s.setFi n level).replica = s.replica := rfl
@[simp] theorem State.setFi_cabin (s : State) (n : Nat) (level : Bool) : (s.setFi n level).cabin = s.cabin := rfl
@[simp] theorem State.setFi_platform (s : State) (n : Nat) (level : Bool) :
    (s.setFi n level).platform = s.platform := rfl
@[simp] theorem State.setFi_wind (s : State) (n : Nat) (level : Bool) : (s.setFi n level).wind = s.wind := rfl
@[simp] theorem State.setFi_conv (s : State) (n : Nat) (level : Bool) : (s.setFi n level).conv = s.conv := rfl
@[simp] theorem State.setFi_asks (s : State) (n : Nat) (level : Bool) : (s.setFi n level).asks = s.asks := rfl
@[simp] theorem State.setFi_console (s : State) (n : Nat) (level : Bool) : (s.setFi n level).console = s.console := rfl
@[simp] theorem State.setFi_tap (s : State) (n : Nat) (level : Bool) : (s.setFi n level).tap = s.tap := rfl
@[simp] theorem State.setFi_capture (s : State) (n : Nat) (level : Bool) : (s.setFi n level).capture = s.capture := rfl
@[simp] theorem State.setFi_status (s : State) (n : Nat) (level : Bool) : (s.setFi n level).status = s.status := rfl

@[simp] theorem State.startFilter_filter (s : State) (n t : Nat) :
    (s.startFilter n t).filter = s.filter.set n t := rfl
@[simp] theorem State.startFilter_fi (s : State) (n t : Nat) : (s.startFilter n t).fi = s.fi := rfl
@[simp] theorem State.startFilter_resetHeld (s : State) (n t : Nat) : (s.startFilter n t).resetHeld = s.resetHeld := rfl
@[simp] theorem State.startFilter_pending (s : State) (n t : Nat) : (s.startFilter n t).pending = s.pending := rfl
@[simp] theorem State.startFilter_mode (s : State) (n t : Nat) : (s.startFilter n t).mode = s.mode := rfl
@[simp] theorem State.startFilter_station (s : State) (n t : Nat) : (s.startFilter n t).station = s.station := rfl
@[simp] theorem State.startFilter_loader (s : State) (n t : Nat) : (s.startFilter n t).loader = s.loader := rfl
@[simp] theorem State.startFilter_settings (s : State) (n t : Nat) : (s.startFilter n t).settings = s.settings := rfl
@[simp] theorem State.startFilter_roster (s : State) (n t : Nat) : (s.startFilter n t).roster = s.roster := rfl
@[simp] theorem State.startFilter_line (s : State) (n t : Nat) : (s.startFilter n t).line = s.line := rfl
@[simp] theorem State.startFilter_round (s : State) (n t : Nat) : (s.startFilter n t).round = s.round := rfl
@[simp] theorem State.startFilter_agreement (s : State) (n t : Nat) : (s.startFilter n t).agreement = s.agreement := rfl
@[simp] theorem State.startFilter_drive (s : State) (n t : Nat) : (s.startFilter n t).drive = s.drive := rfl
@[simp] theorem State.startFilter_replica (s : State) (n t : Nat) : (s.startFilter n t).replica = s.replica := rfl
@[simp] theorem State.startFilter_cabin (s : State) (n t : Nat) : (s.startFilter n t).cabin = s.cabin := rfl
@[simp] theorem State.startFilter_platform (s : State) (n t : Nat) : (s.startFilter n t).platform = s.platform := rfl
@[simp] theorem State.startFilter_wind (s : State) (n t : Nat) : (s.startFilter n t).wind = s.wind := rfl
@[simp] theorem State.startFilter_conv (s : State) (n t : Nat) : (s.startFilter n t).conv = s.conv := rfl
@[simp] theorem State.startFilter_asks (s : State) (n t : Nat) : (s.startFilter n t).asks = s.asks := rfl
@[simp] theorem State.startFilter_console (s : State) (n t : Nat) : (s.startFilter n t).console = s.console := rfl
@[simp] theorem State.startFilter_tap (s : State) (n t : Nat) : (s.startFilter n t).tap = s.tap := rfl
@[simp] theorem State.startFilter_capture (s : State) (n t : Nat) : (s.startFilter n t).capture = s.capture := rfl
@[simp] theorem State.startFilter_status (s : State) (n t : Nat) : (s.startFilter n t).status = s.status := rfl

/-! ### The `loader` part -/

@[simp] theorem State.modLoader_fi (s : State) (f : Loader → Loader) : (s.modLoader f).fi = s.fi := rfl
@[simp] theorem State.modLoader_filter (s : State) (f : Loader → Loader) : (s.modLoader f).filter = s.filter := rfl
@[simp] theorem State.modLoader_resetHeld (s : State) (f : Loader → Loader) :
    (s.modLoader f).resetHeld = s.resetHeld := rfl
@[simp] theorem State.modLoader_pending (s : State) (f : Loader → Loader) : (s.modLoader f).pending = s.pending := rfl
@[simp] theorem State.modLoader_mode (s : State) (f : Loader → Loader) : (s.modLoader f).mode = s.mode := rfl
@[simp] theorem State.modLoader_station (s : State) (f : Loader → Loader) : (s.modLoader f).station = s.station := rfl
@[simp] theorem State.modLoader_loader (s : State) (f : Loader → Loader) : (s.modLoader f).loader = f s.loader := rfl
@[simp] theorem State.modLoader_settings (s : State) (f : Loader → Loader) :
    (s.modLoader f).settings = s.settings := rfl
@[simp] theorem State.modLoader_roster (s : State) (f : Loader → Loader) : (s.modLoader f).roster = s.roster := rfl
@[simp] theorem State.modLoader_line (s : State) (f : Loader → Loader) : (s.modLoader f).line = s.line := rfl
@[simp] theorem State.modLoader_round (s : State) (f : Loader → Loader) : (s.modLoader f).round = s.round := rfl
@[simp] theorem State.modLoader_agreement (s : State) (f : Loader → Loader) :
    (s.modLoader f).agreement = s.agreement := rfl
@[simp] theorem State.modLoader_drive (s : State) (f : Loader → Loader) : (s.modLoader f).drive = s.drive := rfl
@[simp] theorem State.modLoader_replica (s : State) (f : Loader → Loader) : (s.modLoader f).replica = s.replica := rfl
@[simp] theorem State.modLoader_cabin (s : State) (f : Loader → Loader) : (s.modLoader f).cabin = s.cabin := rfl
@[simp] theorem State.modLoader_platform (s : State) (f : Loader → Loader) :
    (s.modLoader f).platform = s.platform := rfl
@[simp] theorem State.modLoader_wind (s : State) (f : Loader → Loader) : (s.modLoader f).wind = s.wind := rfl
@[simp] theorem State.modLoader_conv (s : State) (f : Loader → Loader) : (s.modLoader f).conv = s.conv := rfl
@[simp] theorem State.modLoader_asks (s : State) (f : Loader → Loader) : (s.modLoader f).asks = s.asks := rfl
@[simp] theorem State.modLoader_console (s : State) (f : Loader → Loader) : (s.modLoader f).console = s.console := rfl
@[simp] theorem State.modLoader_tap (s : State) (f : Loader → Loader) : (s.modLoader f).tap = s.tap := rfl
@[simp] theorem State.modLoader_capture (s : State) (f : Loader → Loader) : (s.modLoader f).capture = s.capture := rfl
@[simp] theorem State.modLoader_status (s : State) (f : Loader → Loader) : (s.modLoader f).status = s.status := rfl

/-! ### The `settings` part -/

@[simp] theorem State.modSettings_fi (s : State) (f : Settings → Settings) : (s.modSettings f).fi = s.fi := rfl
@[simp] theorem State.modSettings_filter (s : State) (f : Settings → Settings) :
    (s.modSettings f).filter = s.filter := rfl
@[simp] theorem State.modSettings_resetHeld (s : State) (f : Settings → Settings) :
    (s.modSettings f).resetHeld = s.resetHeld := rfl
@[simp] theorem State.modSettings_pending (s : State) (f : Settings → Settings) :
    (s.modSettings f).pending = s.pending := rfl
@[simp] theorem State.modSettings_mode (s : State) (f : Settings → Settings) : (s.modSettings f).mode = s.mode := rfl
@[simp] theorem State.modSettings_station (s : State) (f : Settings → Settings) :
    (s.modSettings f).station = s.station := rfl
@[simp] theorem State.modSettings_loader (s : State) (f : Settings → Settings) :
    (s.modSettings f).loader = s.loader := rfl
@[simp] theorem State.modSettings_settings (s : State) (f : Settings → Settings) :
    (s.modSettings f).settings = f s.settings := rfl
@[simp] theorem State.modSettings_roster (s : State) (f : Settings → Settings) :
    (s.modSettings f).roster = s.roster := rfl
@[simp] theorem State.modSettings_line (s : State) (f : Settings → Settings) : (s.modSettings f).line = s.line := rfl
@[simp] theorem State.modSettings_round (s : State) (f : Settings → Settings) : (s.modSettings f).round = s.round := rfl
@[simp] theorem State.modSettings_agreement (s : State) (f : Settings → Settings) :
    (s.modSettings f).agreement = s.agreement := rfl
@[simp] theorem State.modSettings_drive (s : State) (f : Settings → Settings) : (s.modSettings f).drive = s.drive := rfl
@[simp] theorem State.modSettings_replica (s : State) (f : Settings → Settings) :
    (s.modSettings f).replica = s.replica := rfl
@[simp] theorem State.modSettings_cabin (s : State) (f : Settings → Settings) : (s.modSettings f).cabin = s.cabin := rfl
@[simp] theorem State.modSettings_platform (s : State) (f : Settings → Settings) :
    (s.modSettings f).platform = s.platform := rfl
@[simp] theorem State.modSettings_wind (s : State) (f : Settings → Settings) : (s.modSettings f).wind = s.wind := rfl
@[simp] theorem State.modSettings_conv (s : State) (f : Settings → Settings) : (s.modSettings f).conv = s.conv := rfl
@[simp] theorem State.modSettings_asks (s : State) (f : Settings → Settings) : (s.modSettings f).asks = s.asks := rfl
@[simp] theorem State.modSettings_console (s : State) (f : Settings → Settings) :
    (s.modSettings f).console = s.console := rfl
@[simp] theorem State.modSettings_tap (s : State) (f : Settings → Settings) : (s.modSettings f).tap = s.tap := rfl
@[simp] theorem State.modSettings_capture (s : State) (f : Settings → Settings) :
    (s.modSettings f).capture = s.capture := rfl
@[simp] theorem State.modSettings_status (s : State) (f : Settings → Settings) :
    (s.modSettings f).status = s.status := rfl

/-! ### The `line` part -/

@[simp] theorem State.modLine_fi (s : State) (f : Line → Line) : (s.modLine f).fi = s.fi := rfl
@[simp] theorem State.modLine_filter (s : State) (f : Line → Line) : (s.modLine f).filter = s.filter := rfl
@[simp] theorem State.modLine_resetHeld (s : State) (f : Line → Line) : (s.modLine f).resetHeld = s.resetHeld := rfl
@[simp] theorem State.modLine_pending (s : State) (f : Line → Line) : (s.modLine f).pending = s.pending := rfl
@[simp] theorem State.modLine_mode (s : State) (f : Line → Line) : (s.modLine f).mode = s.mode := rfl
@[simp] theorem State.modLine_station (s : State) (f : Line → Line) : (s.modLine f).station = s.station := rfl
@[simp] theorem State.modLine_loader (s : State) (f : Line → Line) : (s.modLine f).loader = s.loader := rfl
@[simp] theorem State.modLine_settings (s : State) (f : Line → Line) : (s.modLine f).settings = s.settings := rfl
@[simp] theorem State.modLine_roster (s : State) (f : Line → Line) : (s.modLine f).roster = s.roster := rfl
@[simp] theorem State.modLine_line (s : State) (f : Line → Line) : (s.modLine f).line = f s.line := rfl
@[simp] theorem State.modLine_round (s : State) (f : Line → Line) : (s.modLine f).round = s.round := rfl
@[simp] theorem State.modLine_agreement (s : State) (f : Line → Line) : (s.modLine f).agreement = s.agreement := rfl
@[simp] theorem State.modLine_drive (s : State) (f : Line → Line) : (s.modLine f).drive = s.drive := rfl
@[simp] theorem State.modLine_replica (s : State) (f : Line → Line) : (s.modLine f).replica = s.replica := rfl
@[simp] theorem State.modLine_cabin (s : State) (f : Line → Line) : (s.modLine f).cabin = s.cabin := rfl
@[simp] theorem State.modLine_platform (s : State) (f : Line → Line) : (s.modLine f).platform = s.platform := rfl
@[simp] theorem State.modLine_wind (s : State) (f : Line → Line) : (s.modLine f).wind = s.wind := rfl
@[simp] theorem State.modLine_conv (s : State) (f : Line → Line) : (s.modLine f).conv = s.conv := rfl
@[simp] theorem State.modLine_asks (s : State) (f : Line → Line) : (s.modLine f).asks = s.asks := rfl
@[simp] theorem State.modLine_console (s : State) (f : Line → Line) : (s.modLine f).console = s.console := rfl
@[simp] theorem State.modLine_tap (s : State) (f : Line → Line) : (s.modLine f).tap = s.tap := rfl
@[simp] theorem State.modLine_capture (s : State) (f : Line → Line) : (s.modLine f).capture = s.capture := rfl
@[simp] theorem State.modLine_status (s : State) (f : Line → Line) : (s.modLine f).status = s.status := rfl

/-! ### The `round` part -/

@[simp] theorem State.modRound_fi (s : State) (f : Round → Round) : (s.modRound f).fi = s.fi := rfl
@[simp] theorem State.modRound_filter (s : State) (f : Round → Round) : (s.modRound f).filter = s.filter := rfl
@[simp] theorem State.modRound_resetHeld (s : State) (f : Round → Round) : (s.modRound f).resetHeld = s.resetHeld := rfl
@[simp] theorem State.modRound_pending (s : State) (f : Round → Round) : (s.modRound f).pending = s.pending := rfl
@[simp] theorem State.modRound_mode (s : State) (f : Round → Round) : (s.modRound f).mode = s.mode := rfl
@[simp] theorem State.modRound_station (s : State) (f : Round → Round) : (s.modRound f).station = s.station := rfl
@[simp] theorem State.modRound_loader (s : State) (f : Round → Round) : (s.modRound f).loader = s.loader := rfl
@[simp] theorem State.modRound_settings (s : State) (f : Round → Round) : (s.modRound f).settings = s.settings := rfl
@[simp] theorem State.modRound_roster (s : State) (f : Round → Round) : (s.modRound f).roster = s.roster := rfl
@[simp] theorem State.modRound_line (s : State) (f : Round → Round) : (s.modRound f).line = s.line := rfl
@[simp] theorem State.modRound_round (s : State) (f : Round → Round) : (s.modRound f).round = f s.round := rfl
@[simp] theorem State.modRound_agreement (s : State) (f : Round → Round) : (s.modRound f).agreement = s.agreement := rfl
@[simp] theorem State.modRound_drive (s : State) (f : Round → Round) : (s.modRound f).drive = s.drive := rfl
@[simp] theorem State.modRound_replica (s : State) (f : Round → Round) : (s.modRound f).replica = s.replica := rfl
@[simp] theorem State.modRound_cabin (s : State) (f : Round → Round) : (s.modRound f).cabin = s.cabin := rfl
@[simp] theorem State.modRound_platform (s : State) (f : Round → Round) : (s.modRound f).platform = s.platform := rfl
@[simp] theorem State.modRound_wind (s : State) (f : Round → Round) : (s.modRound f).wind = s.wind := rfl
@[simp] theorem State.modRound_conv (s : State) (f : Round → Round) : (s.modRound f).conv = s.conv := rfl
@[simp] theorem State.modRound_asks (s : State) (f : Round → Round) : (s.modRound f).asks = s.asks := rfl
@[simp] theorem State.modRound_console (s : State) (f : Round → Round) : (s.modRound f).console = s.console := rfl
@[simp] theorem State.modRound_tap (s : State) (f : Round → Round) : (s.modRound f).tap = s.tap := rfl
@[simp] theorem State.modRound_capture (s : State) (f : Round → Round) : (s.modRound f).capture = s.capture := rfl
@[simp] theorem State.modRound_status (s : State) (f : Round → Round) : (s.modRound f).status = s.status := rfl

/-! ### The `agreement` part -/

@[simp] theorem State.modAgreement_fi (s : State) (f : Agreement → Agreement) : (s.modAgreement f).fi = s.fi := rfl
@[simp] theorem State.modAgreement_filter (s : State) (f : Agreement → Agreement) :
    (s.modAgreement f).filter = s.filter := rfl
@[simp] theorem State.modAgreement_resetHeld (s : State) (f : Agreement → Agreement) :
    (s.modAgreement f).resetHeld = s.resetHeld := rfl
@[simp] theorem State.modAgreement_pending (s : State) (f : Agreement → Agreement) :
    (s.modAgreement f).pending = s.pending := rfl
@[simp] theorem State.modAgreement_mode (s : State) (f : Agreement → Agreement) :
    (s.modAgreement f).mode = s.mode := rfl
@[simp] theorem State.modAgreement_station (s : State) (f : Agreement → Agreement) :
    (s.modAgreement f).station = s.station := rfl
@[simp] theorem State.modAgreement_loader (s : State) (f : Agreement → Agreement) :
    (s.modAgreement f).loader = s.loader := rfl
@[simp] theorem State.modAgreement_settings (s : State) (f : Agreement → Agreement) :
    (s.modAgreement f).settings = s.settings := rfl
@[simp] theorem State.modAgreement_roster (s : State) (f : Agreement → Agreement) :
    (s.modAgreement f).roster = s.roster := rfl
@[simp] theorem State.modAgreement_line (s : State) (f : Agreement → Agreement) :
    (s.modAgreement f).line = s.line := rfl
@[simp] theorem State.modAgreement_round (s : State) (f : Agreement → Agreement) :
    (s.modAgreement f).round = s.round := rfl
@[simp] theorem State.modAgreement_agreement (s : State) (f : Agreement → Agreement) :
    (s.modAgreement f).agreement = f s.agreement := rfl
@[simp] theorem State.modAgreement_drive (s : State) (f : Agreement → Agreement) :
    (s.modAgreement f).drive = s.drive := rfl
@[simp] theorem State.modAgreement_replica (s : State) (f : Agreement → Agreement) :
    (s.modAgreement f).replica = s.replica := rfl
@[simp] theorem State.modAgreement_cabin (s : State) (f : Agreement → Agreement) :
    (s.modAgreement f).cabin = s.cabin := rfl
@[simp] theorem State.modAgreement_platform (s : State) (f : Agreement → Agreement) :
    (s.modAgreement f).platform = s.platform := rfl
@[simp] theorem State.modAgreement_wind (s : State) (f : Agreement → Agreement) :
    (s.modAgreement f).wind = s.wind := rfl
@[simp] theorem State.modAgreement_conv (s : State) (f : Agreement → Agreement) :
    (s.modAgreement f).conv = s.conv := rfl
@[simp] theorem State.modAgreement_asks (s : State) (f : Agreement → Agreement) :
    (s.modAgreement f).asks = s.asks := rfl
@[simp] theorem State.modAgreement_console (s : State) (f : Agreement → Agreement) :
    (s.modAgreement f).console = s.console := rfl
@[simp] theorem State.modAgreement_tap (s : State) (f : Agreement → Agreement) : (s.modAgreement f).tap = s.tap := rfl
@[simp] theorem State.modAgreement_capture (s : State) (f : Agreement → Agreement) :
    (s.modAgreement f).capture = s.capture := rfl
@[simp] theorem State.modAgreement_status (s : State) (f : Agreement → Agreement) :
    (s.modAgreement f).status = s.status := rfl

/-! ### The `drive` part -/

@[simp] theorem State.modDrive_fi (s : State) (f : Drive → Drive) : (s.modDrive f).fi = s.fi := rfl
@[simp] theorem State.modDrive_filter (s : State) (f : Drive → Drive) : (s.modDrive f).filter = s.filter := rfl
@[simp] theorem State.modDrive_resetHeld (s : State) (f : Drive → Drive) : (s.modDrive f).resetHeld = s.resetHeld := rfl
@[simp] theorem State.modDrive_pending (s : State) (f : Drive → Drive) : (s.modDrive f).pending = s.pending := rfl
@[simp] theorem State.modDrive_mode (s : State) (f : Drive → Drive) : (s.modDrive f).mode = s.mode := rfl
@[simp] theorem State.modDrive_station (s : State) (f : Drive → Drive) : (s.modDrive f).station = s.station := rfl
@[simp] theorem State.modDrive_loader (s : State) (f : Drive → Drive) : (s.modDrive f).loader = s.loader := rfl
@[simp] theorem State.modDrive_settings (s : State) (f : Drive → Drive) : (s.modDrive f).settings = s.settings := rfl
@[simp] theorem State.modDrive_roster (s : State) (f : Drive → Drive) : (s.modDrive f).roster = s.roster := rfl
@[simp] theorem State.modDrive_line (s : State) (f : Drive → Drive) : (s.modDrive f).line = s.line := rfl
@[simp] theorem State.modDrive_round (s : State) (f : Drive → Drive) : (s.modDrive f).round = s.round := rfl
@[simp] theorem State.modDrive_agreement (s : State) (f : Drive → Drive) : (s.modDrive f).agreement = s.agreement := rfl
@[simp] theorem State.modDrive_drive (s : State) (f : Drive → Drive) : (s.modDrive f).drive = f s.drive := rfl
@[simp] theorem State.modDrive_replica (s : State) (f : Drive → Drive) : (s.modDrive f).replica = s.replica := rfl
@[simp] theorem State.modDrive_cabin (s : State) (f : Drive → Drive) : (s.modDrive f).cabin = s.cabin := rfl
@[simp] theorem State.modDrive_platform (s : State) (f : Drive → Drive) : (s.modDrive f).platform = s.platform := rfl
@[simp] theorem State.modDrive_wind (s : State) (f : Drive → Drive) : (s.modDrive f).wind = s.wind := rfl
@[simp] theorem State.modDrive_conv (s : State) (f : Drive → Drive) : (s.modDrive f).conv = s.conv := rfl
@[simp] theorem State.modDrive_asks (s : State) (f : Drive → Drive) : (s.modDrive f).asks = s.asks := rfl
@[simp] theorem State.modDrive_console (s : State) (f : Drive → Drive) : (s.modDrive f).console = s.console := rfl
@[simp] theorem State.modDrive_tap (s : State) (f : Drive → Drive) : (s.modDrive f).tap = s.tap := rfl
@[simp] theorem State.modDrive_capture (s : State) (f : Drive → Drive) : (s.modDrive f).capture = s.capture := rfl
@[simp] theorem State.modDrive_status (s : State) (f : Drive → Drive) : (s.modDrive f).status = s.status := rfl

/-! ### The `replica` part -/

@[simp] theorem State.modReplica_fi (s : State) (f : Replica → Replica) : (s.modReplica f).fi = s.fi := rfl
@[simp] theorem State.modReplica_filter (s : State) (f : Replica → Replica) : (s.modReplica f).filter = s.filter := rfl
@[simp] theorem State.modReplica_resetHeld (s : State) (f : Replica → Replica) :
    (s.modReplica f).resetHeld = s.resetHeld := rfl
@[simp] theorem State.modReplica_pending (s : State) (f : Replica → Replica) :
    (s.modReplica f).pending = s.pending := rfl
@[simp] theorem State.modReplica_mode (s : State) (f : Replica → Replica) : (s.modReplica f).mode = s.mode := rfl
@[simp] theorem State.modReplica_station (s : State) (f : Replica → Replica) :
    (s.modReplica f).station = s.station := rfl
@[simp] theorem State.modReplica_loader (s : State) (f : Replica → Replica) : (s.modReplica f).loader = s.loader := rfl
@[simp] theorem State.modReplica_settings (s : State) (f : Replica → Replica) :
    (s.modReplica f).settings = s.settings := rfl
@[simp] theorem State.modReplica_roster (s : State) (f : Replica → Replica) : (s.modReplica f).roster = s.roster := rfl
@[simp] theorem State.modReplica_line (s : State) (f : Replica → Replica) : (s.modReplica f).line = s.line := rfl
@[simp] theorem State.modReplica_round (s : State) (f : Replica → Replica) : (s.modReplica f).round = s.round := rfl
@[simp] theorem State.modReplica_agreement (s : State) (f : Replica → Replica) :
    (s.modReplica f).agreement = s.agreement := rfl
@[simp] theorem State.modReplica_drive (s : State) (f : Replica → Replica) : (s.modReplica f).drive = s.drive := rfl
@[simp] theorem State.modReplica_replica (s : State) (f : Replica → Replica) :
    (s.modReplica f).replica = f s.replica := rfl
@[simp] theorem State.modReplica_cabin (s : State) (f : Replica → Replica) : (s.modReplica f).cabin = s.cabin := rfl
@[simp] theorem State.modReplica_platform (s : State) (f : Replica → Replica) :
    (s.modReplica f).platform = s.platform := rfl
@[simp] theorem State.modReplica_wind (s : State) (f : Replica → Replica) : (s.modReplica f).wind = s.wind := rfl
@[simp] theorem State.modReplica_conv (s : State) (f : Replica → Replica) : (s.modReplica f).conv = s.conv := rfl
@[simp] theorem State.modReplica_asks (s : State) (f : Replica → Replica) : (s.modReplica f).asks = s.asks := rfl
@[simp] theorem State.modReplica_console (s : State) (f : Replica → Replica) :
    (s.modReplica f).console = s.console := rfl
@[simp] theorem State.modReplica_tap (s : State) (f : Replica → Replica) : (s.modReplica f).tap = s.tap := rfl
@[simp] theorem State.modReplica_capture (s : State) (f : Replica → Replica) :
    (s.modReplica f).capture = s.capture := rfl
@[simp] theorem State.modReplica_status (s : State) (f : Replica → Replica) : (s.modReplica f).status = s.status := rfl

/-! ### The `cabin` part -/

@[simp] theorem State.modCabin_fi (s : State) (f : Cabin → Cabin) : (s.modCabin f).fi = s.fi := rfl
@[simp] theorem State.modCabin_filter (s : State) (f : Cabin → Cabin) : (s.modCabin f).filter = s.filter := rfl
@[simp] theorem State.modCabin_resetHeld (s : State) (f : Cabin → Cabin) : (s.modCabin f).resetHeld = s.resetHeld := rfl
@[simp] theorem State.modCabin_pending (s : State) (f : Cabin → Cabin) : (s.modCabin f).pending = s.pending := rfl
@[simp] theorem State.modCabin_mode (s : State) (f : Cabin → Cabin) : (s.modCabin f).mode = s.mode := rfl
@[simp] theorem State.modCabin_station (s : State) (f : Cabin → Cabin) : (s.modCabin f).station = s.station := rfl
@[simp] theorem State.modCabin_loader (s : State) (f : Cabin → Cabin) : (s.modCabin f).loader = s.loader := rfl
@[simp] theorem State.modCabin_settings (s : State) (f : Cabin → Cabin) : (s.modCabin f).settings = s.settings := rfl
@[simp] theorem State.modCabin_roster (s : State) (f : Cabin → Cabin) : (s.modCabin f).roster = s.roster := rfl
@[simp] theorem State.modCabin_line (s : State) (f : Cabin → Cabin) : (s.modCabin f).line = s.line := rfl
@[simp] theorem State.modCabin_round (s : State) (f : Cabin → Cabin) : (s.modCabin f).round = s.round := rfl
@[simp] theorem State.modCabin_agreement (s : State) (f : Cabin → Cabin) : (s.modCabin f).agreement = s.agreement := rfl
@[simp] theorem State.modCabin_drive (s : State) (f : Cabin → Cabin) : (s.modCabin f).drive = s.drive := rfl
@[simp] theorem State.modCabin_replica (s : State) (f : Cabin → Cabin) : (s.modCabin f).replica = s.replica := rfl
@[simp] theorem State.modCabin_cabin (s : State) (f : Cabin → Cabin) : (s.modCabin f).cabin = f s.cabin := rfl
@[simp] theorem State.modCabin_platform (s : State) (f : Cabin → Cabin) : (s.modCabin f).platform = s.platform := rfl
@[simp] theorem State.modCabin_wind (s : State) (f : Cabin → Cabin) : (s.modCabin f).wind = s.wind := rfl
@[simp] theorem State.modCabin_conv (s : State) (f : Cabin → Cabin) : (s.modCabin f).conv = s.conv := rfl
@[simp] theorem State.modCabin_asks (s : State) (f : Cabin → Cabin) : (s.modCabin f).asks = s.asks := rfl
@[simp] theorem State.modCabin_console (s : State) (f : Cabin → Cabin) : (s.modCabin f).console = s.console := rfl
@[simp] theorem State.modCabin_tap (s : State) (f : Cabin → Cabin) : (s.modCabin f).tap = s.tap := rfl
@[simp] theorem State.modCabin_capture (s : State) (f : Cabin → Cabin) : (s.modCabin f).capture = s.capture := rfl
@[simp] theorem State.modCabin_status (s : State) (f : Cabin → Cabin) : (s.modCabin f).status = s.status := rfl

/-! ### The `platform` part -/

@[simp] theorem State.modPlatform_fi (s : State) (f : Platform → Platform) : (s.modPlatform f).fi = s.fi := rfl
@[simp] theorem State.modPlatform_filter (s : State) (f : Platform → Platform) :
    (s.modPlatform f).filter = s.filter := rfl
@[simp] theorem State.modPlatform_resetHeld (s : State) (f : Platform → Platform) :
    (s.modPlatform f).resetHeld = s.resetHeld := rfl
@[simp] theorem State.modPlatform_pending (s : State) (f : Platform → Platform) :
    (s.modPlatform f).pending = s.pending := rfl
@[simp] theorem State.modPlatform_mode (s : State) (f : Platform → Platform) : (s.modPlatform f).mode = s.mode := rfl
@[simp] theorem State.modPlatform_station (s : State) (f : Platform → Platform) :
    (s.modPlatform f).station = s.station := rfl
@[simp] theorem State.modPlatform_loader (s : State) (f : Platform → Platform) :
    (s.modPlatform f).loader = s.loader := rfl
@[simp] theorem State.modPlatform_settings (s : State) (f : Platform → Platform) :
    (s.modPlatform f).settings = s.settings := rfl
@[simp] theorem State.modPlatform_roster (s : State) (f : Platform → Platform) :
    (s.modPlatform f).roster = s.roster := rfl
@[simp] theorem State.modPlatform_line (s : State) (f : Platform → Platform) : (s.modPlatform f).line = s.line := rfl
@[simp] theorem State.modPlatform_round (s : State) (f : Platform → Platform) : (s.modPlatform f).round = s.round := rfl
@[simp] theorem State.modPlatform_agreement (s : State) (f : Platform → Platform) :
    (s.modPlatform f).agreement = s.agreement := rfl
@[simp] theorem State.modPlatform_drive (s : State) (f : Platform → Platform) : (s.modPlatform f).drive = s.drive := rfl
@[simp] theorem State.modPlatform_replica (s : State) (f : Platform → Platform) :
    (s.modPlatform f).replica = s.replica := rfl
@[simp] theorem State.modPlatform_cabin (s : State) (f : Platform → Platform) : (s.modPlatform f).cabin = s.cabin := rfl
@[simp] theorem State.modPlatform_platform (s : State) (f : Platform → Platform) :
    (s.modPlatform f).platform = f s.platform := rfl
@[simp] theorem State.modPlatform_wind (s : State) (f : Platform → Platform) : (s.modPlatform f).wind = s.wind := rfl
@[simp] theorem State.modPlatform_conv (s : State) (f : Platform → Platform) : (s.modPlatform f).conv = s.conv := rfl
@[simp] theorem State.modPlatform_asks (s : State) (f : Platform → Platform) : (s.modPlatform f).asks = s.asks := rfl
@[simp] theorem State.modPlatform_console (s : State) (f : Platform → Platform) :
    (s.modPlatform f).console = s.console := rfl
@[simp] theorem State.modPlatform_tap (s : State) (f : Platform → Platform) : (s.modPlatform f).tap = s.tap := rfl
@[simp] theorem State.modPlatform_capture (s : State) (f : Platform → Platform) :
    (s.modPlatform f).capture = s.capture := rfl
@[simp] theorem State.modPlatform_status (s : State) (f : Platform → Platform) :
    (s.modPlatform f).status = s.status := rfl

/-! ### The `wind` part -/

@[simp] theorem State.modWind_fi (s : State) (f : Wind → Wind) : (s.modWind f).fi = s.fi := rfl
@[simp] theorem State.modWind_filter (s : State) (f : Wind → Wind) : (s.modWind f).filter = s.filter := rfl
@[simp] theorem State.modWind_resetHeld (s : State) (f : Wind → Wind) : (s.modWind f).resetHeld = s.resetHeld := rfl
@[simp] theorem State.modWind_pending (s : State) (f : Wind → Wind) : (s.modWind f).pending = s.pending := rfl
@[simp] theorem State.modWind_mode (s : State) (f : Wind → Wind) : (s.modWind f).mode = s.mode := rfl
@[simp] theorem State.modWind_station (s : State) (f : Wind → Wind) : (s.modWind f).station = s.station := rfl
@[simp] theorem State.modWind_loader (s : State) (f : Wind → Wind) : (s.modWind f).loader = s.loader := rfl
@[simp] theorem State.modWind_settings (s : State) (f : Wind → Wind) : (s.modWind f).settings = s.settings := rfl
@[simp] theorem State.modWind_roster (s : State) (f : Wind → Wind) : (s.modWind f).roster = s.roster := rfl
@[simp] theorem State.modWind_line (s : State) (f : Wind → Wind) : (s.modWind f).line = s.line := rfl
@[simp] theorem State.modWind_round (s : State) (f : Wind → Wind) : (s.modWind f).round = s.round := rfl
@[simp] theorem State.modWind_agreement (s : State) (f : Wind → Wind) : (s.modWind f).agreement = s.agreement := rfl
@[simp] theorem State.modWind_drive (s : State) (f : Wind → Wind) : (s.modWind f).drive = s.drive := rfl
@[simp] theorem State.modWind_replica (s : State) (f : Wind → Wind) : (s.modWind f).replica = s.replica := rfl
@[simp] theorem State.modWind_cabin (s : State) (f : Wind → Wind) : (s.modWind f).cabin = s.cabin := rfl
@[simp] theorem State.modWind_platform (s : State) (f : Wind → Wind) : (s.modWind f).platform = s.platform := rfl
@[simp] theorem State.modWind_wind (s : State) (f : Wind → Wind) : (s.modWind f).wind = f s.wind := rfl
@[simp] theorem State.modWind_conv (s : State) (f : Wind → Wind) : (s.modWind f).conv = s.conv := rfl
@[simp] theorem State.modWind_asks (s : State) (f : Wind → Wind) : (s.modWind f).asks = s.asks := rfl
@[simp] theorem State.modWind_console (s : State) (f : Wind → Wind) : (s.modWind f).console = s.console := rfl
@[simp] theorem State.modWind_tap (s : State) (f : Wind → Wind) : (s.modWind f).tap = s.tap := rfl
@[simp] theorem State.modWind_capture (s : State) (f : Wind → Wind) : (s.modWind f).capture = s.capture := rfl
@[simp] theorem State.modWind_status (s : State) (f : Wind → Wind) : (s.modWind f).status = s.status := rfl

/-! ### The `conv` part -/

@[simp] theorem State.modConv_fi (s : State) (f : Converter → Converter) : (s.modConv f).fi = s.fi := rfl
@[simp] theorem State.modConv_filter (s : State) (f : Converter → Converter) : (s.modConv f).filter = s.filter := rfl
@[simp] theorem State.modConv_resetHeld (s : State) (f : Converter → Converter) :
    (s.modConv f).resetHeld = s.resetHeld := rfl
@[simp] theorem State.modConv_pending (s : State) (f : Converter → Converter) : (s.modConv f).pending = s.pending := rfl
@[simp] theorem State.modConv_mode (s : State) (f : Converter → Converter) : (s.modConv f).mode = s.mode := rfl
@[simp] theorem State.modConv_station (s : State) (f : Converter → Converter) : (s.modConv f).station = s.station := rfl
@[simp] theorem State.modConv_loader (s : State) (f : Converter → Converter) : (s.modConv f).loader = s.loader := rfl
@[simp] theorem State.modConv_settings (s : State) (f : Converter → Converter) :
    (s.modConv f).settings = s.settings := rfl
@[simp] theorem State.modConv_roster (s : State) (f : Converter → Converter) : (s.modConv f).roster = s.roster := rfl
@[simp] theorem State.modConv_line (s : State) (f : Converter → Converter) : (s.modConv f).line = s.line := rfl
@[simp] theorem State.modConv_round (s : State) (f : Converter → Converter) : (s.modConv f).round = s.round := rfl
@[simp] theorem State.modConv_agreement (s : State) (f : Converter → Converter) :
    (s.modConv f).agreement = s.agreement := rfl
@[simp] theorem State.modConv_drive (s : State) (f : Converter → Converter) : (s.modConv f).drive = s.drive := rfl
@[simp] theorem State.modConv_replica (s : State) (f : Converter → Converter) : (s.modConv f).replica = s.replica := rfl
@[simp] theorem State.modConv_cabin (s : State) (f : Converter → Converter) : (s.modConv f).cabin = s.cabin := rfl
@[simp] theorem State.modConv_platform (s : State) (f : Converter → Converter) :
    (s.modConv f).platform = s.platform := rfl
@[simp] theorem State.modConv_wind (s : State) (f : Converter → Converter) : (s.modConv f).wind = s.wind := rfl
@[simp] theorem State.modConv_conv (s : State) (f : Converter → Converter) : (s.modConv f).conv = f s.conv := rfl
@[simp] theorem State.modConv_asks (s : State) (f : Converter → Converter) : (s.modConv f).asks = s.asks := rfl
@[simp] theorem State.modConv_console (s : State) (f : Converter → Converter) : (s.modConv f).console = s.console := rfl
@[simp] theorem State.modConv_tap (s : State) (f : Converter → Converter) : (s.modConv f).tap = s.tap := rfl
@[simp] theorem State.modConv_capture (s : State) (f : Converter → Converter) : (s.modConv f).capture = s.capture := rfl
@[simp] theorem State.modConv_status (s : State) (f : Converter → Converter) : (s.modConv f).status = s.status := rfl

/-! ### The `asks` part -/

@[simp] theorem State.modAsks_fi (s : State) (f : AskTable → AskTable) : (s.modAsks f).fi = s.fi := rfl
@[simp] theorem State.modAsks_filter (s : State) (f : AskTable → AskTable) : (s.modAsks f).filter = s.filter := rfl
@[simp] theorem State.modAsks_resetHeld (s : State) (f : AskTable → AskTable) :
    (s.modAsks f).resetHeld = s.resetHeld := rfl
@[simp] theorem State.modAsks_pending (s : State) (f : AskTable → AskTable) : (s.modAsks f).pending = s.pending := rfl
@[simp] theorem State.modAsks_mode (s : State) (f : AskTable → AskTable) : (s.modAsks f).mode = s.mode := rfl
@[simp] theorem State.modAsks_station (s : State) (f : AskTable → AskTable) : (s.modAsks f).station = s.station := rfl
@[simp] theorem State.modAsks_loader (s : State) (f : AskTable → AskTable) : (s.modAsks f).loader = s.loader := rfl
@[simp] theorem State.modAsks_settings (s : State) (f : AskTable → AskTable) :
    (s.modAsks f).settings = s.settings := rfl
@[simp] theorem State.modAsks_roster (s : State) (f : AskTable → AskTable) : (s.modAsks f).roster = s.roster := rfl
@[simp] theorem State.modAsks_line (s : State) (f : AskTable → AskTable) : (s.modAsks f).line = s.line := rfl
@[simp] theorem State.modAsks_round (s : State) (f : AskTable → AskTable) : (s.modAsks f).round = s.round := rfl
@[simp] theorem State.modAsks_agreement (s : State) (f : AskTable → AskTable) :
    (s.modAsks f).agreement = s.agreement := rfl
@[simp] theorem State.modAsks_drive (s : State) (f : AskTable → AskTable) : (s.modAsks f).drive = s.drive := rfl
@[simp] theorem State.modAsks_replica (s : State) (f : AskTable → AskTable) : (s.modAsks f).replica = s.replica := rfl
@[simp] theorem State.modAsks_cabin (s : State) (f : AskTable → AskTable) : (s.modAsks f).cabin = s.cabin := rfl
@[simp] theorem State.modAsks_platform (s : State) (f : AskTable → AskTable) :
    (s.modAsks f).platform = s.platform := rfl
@[simp] theorem State.modAsks_wind (s : State) (f : AskTable → AskTable) : (s.modAsks f).wind = s.wind := rfl
@[simp] theorem State.modAsks_conv (s : State) (f : AskTable → AskTable) : (s.modAsks f).conv = s.conv := rfl
@[simp] theorem State.modAsks_asks (s : State) (f : AskTable → AskTable) : (s.modAsks f).asks = f s.asks := rfl
@[simp] theorem State.modAsks_console (s : State) (f : AskTable → AskTable) : (s.modAsks f).console = s.console := rfl
@[simp] theorem State.modAsks_tap (s : State) (f : AskTable → AskTable) : (s.modAsks f).tap = s.tap := rfl
@[simp] theorem State.modAsks_capture (s : State) (f : AskTable → AskTable) : (s.modAsks f).capture = s.capture := rfl
@[simp] theorem State.modAsks_status (s : State) (f : AskTable → AskTable) : (s.modAsks f).status = s.status := rfl

/-! ### The `console` part -/

@[simp] theorem State.modConsole_fi (s : State) (f : Console → Console) : (s.modConsole f).fi = s.fi := rfl
@[simp] theorem State.modConsole_filter (s : State) (f : Console → Console) : (s.modConsole f).filter = s.filter := rfl
@[simp] theorem State.modConsole_resetHeld (s : State) (f : Console → Console) :
    (s.modConsole f).resetHeld = s.resetHeld := rfl
@[simp] theorem State.modConsole_pending (s : State) (f : Console → Console) :
    (s.modConsole f).pending = s.pending := rfl
@[simp] theorem State.modConsole_mode (s : State) (f : Console → Console) : (s.modConsole f).mode = s.mode := rfl
@[simp] theorem State.modConsole_station (s : State) (f : Console → Console) :
    (s.modConsole f).station = s.station := rfl
@[simp] theorem State.modConsole_loader (s : State) (f : Console → Console) : (s.modConsole f).loader = s.loader := rfl
@[simp] theorem State.modConsole_settings (s : State) (f : Console → Console) :
    (s.modConsole f).settings = s.settings := rfl
@[simp] theorem State.modConsole_roster (s : State) (f : Console → Console) : (s.modConsole f).roster = s.roster := rfl
@[simp] theorem State.modConsole_line (s : State) (f : Console → Console) : (s.modConsole f).line = s.line := rfl
@[simp] theorem State.modConsole_round (s : State) (f : Console → Console) : (s.modConsole f).round = s.round := rfl
@[simp] theorem State.modConsole_agreement (s : State) (f : Console → Console) :
    (s.modConsole f).agreement = s.agreement := rfl
@[simp] theorem State.modConsole_drive (s : State) (f : Console → Console) : (s.modConsole f).drive = s.drive := rfl
@[simp] theorem State.modConsole_replica (s : State) (f : Console → Console) :
    (s.modConsole f).replica = s.replica := rfl
@[simp] theorem State.modConsole_cabin (s : State) (f : Console → Console) : (s.modConsole f).cabin = s.cabin := rfl
@[simp] theorem State.modConsole_platform (s : State) (f : Console → Console) :
    (s.modConsole f).platform = s.platform := rfl
@[simp] theorem State.modConsole_wind (s : State) (f : Console → Console) : (s.modConsole f).wind = s.wind := rfl
@[simp] theorem State.modConsole_conv (s : State) (f : Console → Console) : (s.modConsole f).conv = s.conv := rfl
@[simp] theorem State.modConsole_asks (s : State) (f : Console → Console) : (s.modConsole f).asks = s.asks := rfl
@[simp] theorem State.modConsole_console (s : State) (f : Console → Console) :
    (s.modConsole f).console = f s.console := rfl
@[simp] theorem State.modConsole_tap (s : State) (f : Console → Console) : (s.modConsole f).tap = s.tap := rfl
@[simp] theorem State.modConsole_capture (s : State) (f : Console → Console) :
    (s.modConsole f).capture = s.capture := rfl
@[simp] theorem State.modConsole_status (s : State) (f : Console → Console) : (s.modConsole f).status = s.status := rfl

/-! ### The `tap` part -/

@[simp] theorem State.modTap_fi (s : State) (f : Tap → Tap) : (s.modTap f).fi = s.fi := rfl
@[simp] theorem State.modTap_filter (s : State) (f : Tap → Tap) : (s.modTap f).filter = s.filter := rfl
@[simp] theorem State.modTap_resetHeld (s : State) (f : Tap → Tap) : (s.modTap f).resetHeld = s.resetHeld := rfl
@[simp] theorem State.modTap_pending (s : State) (f : Tap → Tap) : (s.modTap f).pending = s.pending := rfl
@[simp] theorem State.modTap_mode (s : State) (f : Tap → Tap) : (s.modTap f).mode = s.mode := rfl
@[simp] theorem State.modTap_station (s : State) (f : Tap → Tap) : (s.modTap f).station = s.station := rfl
@[simp] theorem State.modTap_loader (s : State) (f : Tap → Tap) : (s.modTap f).loader = s.loader := rfl
@[simp] theorem State.modTap_settings (s : State) (f : Tap → Tap) : (s.modTap f).settings = s.settings := rfl
@[simp] theorem State.modTap_roster (s : State) (f : Tap → Tap) : (s.modTap f).roster = s.roster := rfl
@[simp] theorem State.modTap_line (s : State) (f : Tap → Tap) : (s.modTap f).line = s.line := rfl
@[simp] theorem State.modTap_round (s : State) (f : Tap → Tap) : (s.modTap f).round = s.round := rfl
@[simp] theorem State.modTap_agreement (s : State) (f : Tap → Tap) : (s.modTap f).agreement = s.agreement := rfl
@[simp] theorem State.modTap_drive (s : State) (f : Tap → Tap) : (s.modTap f).drive = s.drive := rfl
@[simp] theorem State.modTap_replica (s : State) (f : Tap → Tap) : (s.modTap f).replica = s.replica := rfl
@[simp] theorem State.modTap_cabin (s : State) (f : Tap → Tap) : (s.modTap f).cabin = s.cabin := rfl
@[simp] theorem State.modTap_platform (s : State) (f : Tap → Tap) : (s.modTap f).platform = s.platform := rfl
@[simp] theorem State.modTap_wind (s : State) (f : Tap → Tap) : (s.modTap f).wind = s.wind := rfl
@[simp] theorem State.modTap_conv (s : State) (f : Tap → Tap) : (s.modTap f).conv = s.conv := rfl
@[simp] theorem State.modTap_asks (s : State) (f : Tap → Tap) : (s.modTap f).asks = s.asks := rfl
@[simp] theorem State.modTap_console (s : State) (f : Tap → Tap) : (s.modTap f).console = s.console := rfl
@[simp] theorem State.modTap_tap (s : State) (f : Tap → Tap) : (s.modTap f).tap = f s.tap := rfl
@[simp] theorem State.modTap_capture (s : State) (f : Tap → Tap) : (s.modTap f).capture = s.capture := rfl
@[simp] theorem State.modTap_status (s : State) (f : Tap → Tap) : (s.modTap f).status = s.status := rfl

/-! ### The `capture` part -/

@[simp] theorem State.modCapture_fi (s : State) (f : CaptureStore → CaptureStore) : (s.modCapture f).fi = s.fi := rfl
@[simp] theorem State.modCapture_filter (s : State) (f : CaptureStore → CaptureStore) :
    (s.modCapture f).filter = s.filter := rfl
@[simp] theorem State.modCapture_resetHeld (s : State) (f : CaptureStore → CaptureStore) :
    (s.modCapture f).resetHeld = s.resetHeld := rfl
@[simp] theorem State.modCapture_pending (s : State) (f : CaptureStore → CaptureStore) :
    (s.modCapture f).pending = s.pending := rfl
@[simp] theorem State.modCapture_mode (s : State) (f : CaptureStore → CaptureStore) :
    (s.modCapture f).mode = s.mode := rfl
@[simp] theorem State.modCapture_station (s : State) (f : CaptureStore → CaptureStore) :
    (s.modCapture f).station = s.station := rfl
@[simp] theorem State.modCapture_loader (s : State) (f : CaptureStore → CaptureStore) :
    (s.modCapture f).loader = s.loader := rfl
@[simp] theorem State.modCapture_settings (s : State) (f : CaptureStore → CaptureStore) :
    (s.modCapture f).settings = s.settings := rfl
@[simp] theorem State.modCapture_roster (s : State) (f : CaptureStore → CaptureStore) :
    (s.modCapture f).roster = s.roster := rfl
@[simp] theorem State.modCapture_line (s : State) (f : CaptureStore → CaptureStore) :
    (s.modCapture f).line = s.line := rfl
@[simp] theorem State.modCapture_round (s : State) (f : CaptureStore → CaptureStore) :
    (s.modCapture f).round = s.round := rfl
@[simp] theorem State.modCapture_agreement (s : State) (f : CaptureStore → CaptureStore) :
    (s.modCapture f).agreement = s.agreement := rfl
@[simp] theorem State.modCapture_drive (s : State) (f : CaptureStore → CaptureStore) :
    (s.modCapture f).drive = s.drive := rfl
@[simp] theorem State.modCapture_replica (s : State) (f : CaptureStore → CaptureStore) :
    (s.modCapture f).replica = s.replica := rfl
@[simp] theorem State.modCapture_cabin (s : State) (f : CaptureStore → CaptureStore) :
    (s.modCapture f).cabin = s.cabin := rfl
@[simp] theorem State.modCapture_platform (s : State) (f : CaptureStore → CaptureStore) :
    (s.modCapture f).platform = s.platform := rfl
@[simp] theorem State.modCapture_wind (s : State) (f : CaptureStore → CaptureStore) :
    (s.modCapture f).wind = s.wind := rfl
@[simp] theorem State.modCapture_conv (s : State) (f : CaptureStore → CaptureStore) :
    (s.modCapture f).conv = s.conv := rfl
@[simp] theorem State.modCapture_asks (s : State) (f : CaptureStore → CaptureStore) :
    (s.modCapture f).asks = s.asks := rfl
@[simp] theorem State.modCapture_console (s : State) (f : CaptureStore → CaptureStore) :
    (s.modCapture f).console = s.console := rfl
@[simp] theorem State.modCapture_tap (s : State) (f : CaptureStore → CaptureStore) : (s.modCapture f).tap = s.tap := rfl
@[simp] theorem State.modCapture_capture (s : State) (f : CaptureStore → CaptureStore) :
    (s.modCapture f).capture = f s.capture := rfl
@[simp] theorem State.modCapture_status (s : State) (f : CaptureStore → CaptureStore) :
    (s.modCapture f).status = s.status := rfl

/-! ### The `status` part -/

@[simp] theorem State.modStatus_fi (s : State) (f : Status → Status) : (s.modStatus f).fi = s.fi := rfl
@[simp] theorem State.modStatus_filter (s : State) (f : Status → Status) : (s.modStatus f).filter = s.filter := rfl
@[simp] theorem State.modStatus_resetHeld (s : State) (f : Status → Status) :
    (s.modStatus f).resetHeld = s.resetHeld := rfl
@[simp] theorem State.modStatus_pending (s : State) (f : Status → Status) : (s.modStatus f).pending = s.pending := rfl
@[simp] theorem State.modStatus_mode (s : State) (f : Status → Status) : (s.modStatus f).mode = s.mode := rfl
@[simp] theorem State.modStatus_station (s : State) (f : Status → Status) : (s.modStatus f).station = s.station := rfl
@[simp] theorem State.modStatus_loader (s : State) (f : Status → Status) : (s.modStatus f).loader = s.loader := rfl
@[simp] theorem State.modStatus_settings (s : State) (f : Status → Status) :
    (s.modStatus f).settings = s.settings := rfl
@[simp] theorem State.modStatus_roster (s : State) (f : Status → Status) : (s.modStatus f).roster = s.roster := rfl
@[simp] theorem State.modStatus_line (s : State) (f : Status → Status) : (s.modStatus f).line = s.line := rfl
@[simp] theorem State.modStatus_round (s : State) (f : Status → Status) : (s.modStatus f).round = s.round := rfl
@[simp] theorem State.modStatus_agreement (s : State) (f : Status → Status) :
    (s.modStatus f).agreement = s.agreement := rfl
@[simp] theorem State.modStatus_drive (s : State) (f : Status → Status) : (s.modStatus f).drive = s.drive := rfl
@[simp] theorem State.modStatus_replica (s : State) (f : Status → Status) : (s.modStatus f).replica = s.replica := rfl
@[simp] theorem State.modStatus_cabin (s : State) (f : Status → Status) : (s.modStatus f).cabin = s.cabin := rfl
@[simp] theorem State.modStatus_platform (s : State) (f : Status → Status) :
    (s.modStatus f).platform = s.platform := rfl
@[simp] theorem State.modStatus_wind (s : State) (f : Status → Status) : (s.modStatus f).wind = s.wind := rfl
@[simp] theorem State.modStatus_conv (s : State) (f : Status → Status) : (s.modStatus f).conv = s.conv := rfl
@[simp] theorem State.modStatus_asks (s : State) (f : Status → Status) : (s.modStatus f).asks = s.asks := rfl
@[simp] theorem State.modStatus_console (s : State) (f : Status → Status) : (s.modStatus f).console = s.console := rfl
@[simp] theorem State.modStatus_tap (s : State) (f : Status → Status) : (s.modStatus f).tap = s.tap := rfl
@[simp] theorem State.modStatus_capture (s : State) (f : Status → Status) : (s.modStatus f).capture = s.capture := rfl
@[simp] theorem State.modStatus_status (s : State) (f : Status → Status) : (s.modStatus f).status = f s.status := rfl

/-! ### Passing time -/

@[simp] theorem State.elapse_fi (dt : Nat) (s : State) : (s.elapse dt).fi = s.fi := rfl
@[simp] theorem State.elapse_filter (dt : Nat) (s : State) : (s.elapse dt).filter = s.filter.map (· - dt) := rfl
@[simp] theorem State.elapse_resetHeld (dt : Nat) (s : State) : (s.elapse dt).resetHeld = s.resetHeld := rfl
@[simp] theorem State.elapse_pending (dt : Nat) (s : State) : (s.elapse dt).pending = s.pending := rfl
@[simp] theorem State.elapse_mode (dt : Nat) (s : State) : (s.elapse dt).mode = s.mode := rfl
@[simp] theorem State.elapse_station (dt : Nat) (s : State) : (s.elapse dt).station = s.station := rfl
@[simp] theorem State.elapse_settings (dt : Nat) (s : State) : (s.elapse dt).settings = s.settings := rfl
@[simp] theorem State.elapse_roster (dt : Nat) (s : State) : (s.elapse dt).roster = s.roster := rfl
@[simp] theorem State.elapse_agreement (dt : Nat) (s : State) : (s.elapse dt).agreement = s.agreement := rfl
@[simp] theorem State.elapse_replica (dt : Nat) (s : State) : (s.elapse dt).replica = s.replica := rfl
@[simp] theorem State.elapse_asks (dt : Nat) (s : State) : (s.elapse dt).asks = s.asks := rfl
@[simp] theorem State.elapse_console (dt : Nat) (s : State) : (s.elapse dt).console = s.console := rfl
@[simp] theorem State.elapse_tap (dt : Nat) (s : State) : (s.elapse dt).tap = s.tap := rfl
@[simp] theorem State.elapse_capture (dt : Nat) (s : State) : (s.elapse dt).capture = s.capture := rfl
@[simp] theorem State.elapse_status (dt : Nat) (s : State) : (s.elapse dt).status = s.status := rfl
@[simp] theorem State.elapse_line (dt : Nat) (s : State) : (s.elapse dt).line = s.line.elapse dt := rfl
@[simp] theorem State.elapse_drive (dt : Nat) (s : State) : (s.elapse dt).drive = s.drive.elapse dt := rfl
@[simp] theorem State.elapse_cabin (dt : Nat) (s : State) : (s.elapse dt).cabin = s.cabin.elapse dt := rfl
@[simp] theorem State.elapse_platform (dt : Nat) (s : State) : (s.elapse dt).platform = s.platform.elapse dt := rfl
@[simp] theorem State.elapse_wind (dt : Nat) (s : State) : (s.elapse dt).wind = s.wind.elapse dt := rfl
@[simp] theorem State.elapse_conv (dt : Nat) (s : State) : (s.elapse dt).conv = s.conv.elapse dt := rfl

/-- The loader's wait between two tries runs on. -/
@[simp] theorem State.elapse_loader (dt : Nat) (s : State) :
    (s.elapse dt).loader = { s.loader with retryWait := less dt s.loader.retryWait } := rfl

/-- The round timer runs in a receiving mode (R26). -/
@[simp] theorem State.elapse_round (dt : Nat) (s : State) :
    (s.elapse dt).round = if s.mode.receiving then s.round.elapse dt s.roundTimerTop else s.round := rfl

end Sys2Proof.Machine
end

