-- ==== Sys2Proof/Laws/Same.lean ====
section
/-! SUPPORT. What "every part but these is the same" says: it is reflexive, it composes, it weakens, and each update of the
state touches its own part. -/

namespace Sys2Proof.Machine

set_option Elab.async false

theorem State.same_refl (p : Part) (s : State) : State.same p s s := by
  cases p <;> simp [State.same]

theorem State.same_trans {p : Part} {s t u : State} (h : State.same p s t) (k : State.same p t u) :
    State.same p s u := by
  cases p <;> simp only [State.same] at h k ⊢ <;>
    first
    | exact h.trans k
    | exact ⟨h.1.trans k.1, h.2.trans k.2⟩
    | exact ⟨h.1.trans k.1, h.2.1.trans k.2.1, h.2.2.1.trans k.2.2.1, h.2.2.2.1.trans k.2.2.2.1,
        h.2.2.2.2.trans k.2.2.2.2⟩
    | (rw [← k, ← h])

theorem State.sameBut_refl (ps : List Part) (s : State) : State.sameBut ps s s := fun p _ => State.same_refl p s

theorem State.sameBut_of_eq {ps : List Part} {s t : State} (h : s = t) : State.sameBut ps s t := h ▸ State.sameBut_refl ps s

theorem State.sameBut_mono {ps qs : List Part} {s t : State} (sub : ∀ p ∈ ps, p ∈ qs) (h : State.sameBut ps s t) :
    State.sameBut qs s t := fun p hp => h p fun hq => hp (sub p hq)

/-- Two changes of the same parts, one after the other. -/
theorem State.sameBut_trans {ps : List Part} {s t u : State} (h : State.sameBut ps s t) (k : State.sameBut ps t u) :
    State.sameBut ps s u := fun p hp => State.same_trans (h p hp) (k p hp)

/-- A change of some parts after a change of others changes parts of the two lists. -/
theorem State.sameBut_append {ps qs : List Part} {s t u : State} (h : State.sameBut ps s t) (k : State.sameBut qs t u) :
    State.sameBut (ps ++ qs) s u :=
  State.sameBut_trans (State.sameBut_mono (fun _ hp => List.mem_append_left qs hp) h)
    (State.sameBut_mono (fun _ hq => List.mem_append_right ps hq) k)

/-- A change of fewer parts is a change of more. -/
theorem State.sameBut_weaken {ps qs : List Part} {s t : State} (h : State.sameBut qs s t)
    (sub : ∀ p ∈ qs, p ∈ ps := by decide) : State.sameBut ps s t := State.sameBut_mono sub h

/-- A change of some of the parts, then a change of the parts. -/
theorem State.sameBut_then {ps qs : List Part} {s t u : State} (h : State.sameBut qs s t) (k : State.sameBut ps t u)
    (sub : ∀ p ∈ qs, p ∈ ps := by decide) : State.sameBut ps s u :=
  State.sameBut_trans (State.sameBut_mono sub h) k

/-- A choice between two changes. -/
theorem State.sameBut_ite {ps : List Part} {c : Prop} [Decidable c] {s t u : State} (h : State.sameBut ps s t)
    (k : State.sameBut ps s u) : State.sameBut ps s (if c then t else u) := by
  split
  · exact h
  · exact k

/-! ### The updates -/


theorem State.setMode_sameBut (s : State) (m : Mode) : State.sameBut [.mode] s (s.setMode m) := by
  intro p hp; cases p <;> simp [State.same] at hp ⊢

theorem State.setFi_sameBut (s : State) (n : Nat) (level : Bool) : State.sameBut [.fi] s (s.setFi n level) := by
  intro p hp; cases p <;> simp [State.same] at hp ⊢

theorem State.startFilter_sameBut (s : State) (n t : Nat) : State.sameBut [.filter] s (s.startFilter n t) := by
  intro p hp; cases p <;> simp [State.same] at hp ⊢

theorem State.modRoster_sameBut (s : State) (f : List RosterEntry → List RosterEntry) : State.sameBut [.roster] s (s.modRoster f) := by
  intro p hp; cases p <;> simp [State.same] at hp ⊢

theorem State.modLoader_sameBut (s : State) (f : Loader → Loader) : State.sameBut [.loader] s (s.modLoader f) := by
  intro p hp; cases p <;> simp [State.same] at hp ⊢

theorem State.modSettings_sameBut (s : State) (f : Settings → Settings) : State.sameBut [.settings] s (s.modSettings f) := by
  intro p hp; cases p <;> simp [State.same] at hp ⊢

theorem State.modLine_sameBut (s : State) (f : Line → Line) : State.sameBut [.queue, .idle, .line] s (s.modLine f) := by
  intro p hp; cases p <;> simp [State.same] at hp ⊢

theorem State.modRound_sameBut (s : State) (f : Round → Round) : State.sameBut [.round, .working] s (s.modRound f) := by
  intro p hp; cases p <;> simp [State.same] at hp ⊢

theorem State.modAgreement_sameBut (s : State) (f : Agreement → Agreement) : State.sameBut [.agreement] s (s.modAgreement f) := by
  intro p hp; cases p <;> simp [State.same] at hp ⊢

theorem State.modDrive_sameBut (s : State) (f : Drive → Drive) : State.sameBut [.drive] s (s.modDrive f) := by
  intro p hp; cases p <;> simp [State.same] at hp ⊢

theorem State.modReplica_sameBut (s : State) (f : Replica → Replica) : State.sameBut [.replica] s (s.modReplica f) := by
  intro p hp; cases p <;> simp [State.same] at hp ⊢

theorem State.modCabin_sameBut (s : State) (f : Cabin → Cabin) : State.sameBut [.cabin] s (s.modCabin f) := by
  intro p hp; cases p <;> simp [State.same] at hp ⊢

theorem State.modPlatform_sameBut (s : State) (f : Platform → Platform) : State.sameBut [.platform, .gates] s (s.modPlatform f) := by
  intro p hp; cases p <;> simp [State.same] at hp ⊢

theorem State.modWind_sameBut (s : State) (f : Wind → Wind) : State.sameBut [.wind] s (s.modWind f) := by
  intro p hp; cases p <;> simp [State.same] at hp ⊢

theorem State.modConv_sameBut (s : State) (f : Converter → Converter) : State.sameBut [.conv] s (s.modConv f) := by
  intro p hp; cases p <;> simp [State.same] at hp ⊢

theorem State.modAsks_sameBut (s : State) (f : AskTable → AskTable) : State.sameBut [.asks] s (s.modAsks f) := by
  intro p hp; cases p <;> simp [State.same] at hp ⊢

theorem State.modConsole_sameBut (s : State) (f : Console → Console) : State.sameBut [.console] s (s.modConsole f) := by
  intro p hp; cases p <;> simp [State.same] at hp ⊢

theorem State.modTap_sameBut (s : State) (f : Tap → Tap) : State.sameBut [.tap, .renewal] s (s.modTap f) := by
  intro p hp; cases p <;> simp [State.same] at hp ⊢

theorem State.modCapture_sameBut (s : State) (f : CaptureStore → CaptureStore) : State.sameBut [.capture] s (s.modCapture f) := by
  intro p hp; cases p <;> simp [State.same] at hp ⊢

theorem State.modStatus_sameBut (s : State) (f : Status → Status) : State.sameBut [.flags, .counters, .attention] s (s.modStatus f) := by
  intro p hp; cases p <;> simp [State.same] at hp ⊢

/-- A change of the line that leaves all but the queue and the waiting MARK. -/
theorem State.modLine_queue_sameBut (s : State) (f : Line → Line)
    (h : f s.line = { s.line with queue := (f s.line).queue, markWaiting := (f s.line).markWaiting } := by rfl) :
    State.sameBut [.queue] s (s.modLine f) := by
  intro p hp; cases p <;> simp [State.same] at hp ⊢ <;> rw [h]

/-- A change of the line that leaves the queue, the waiting MARK and the idle time. -/
theorem State.modLine_line_sameBut (s : State) (f : Line → Line)
    (h : (f s.line).queue = s.line.queue ∧ (f s.line).markWaiting = s.line.markWaiting ∧
      (f s.line).idle = s.line.idle := by exact ⟨rfl, rfl, rfl⟩) :
    State.sameBut [.line] s (s.modLine f) := by
  obtain ⟨a, b, c⟩ := h
  intro p hp; cases p <;> simp [State.same, a, b, c] at hp ⊢

/-- A change of the round part that leaves the working side. -/
theorem State.modRound_round_sameBut (s : State) (f : Round → Round)
    (h : (f s.round).working = s.round.working := by rfl) : State.sameBut [.round] s (s.modRound f) := by
  intro p hp; cases p <;> simp [State.same, h] at hp ⊢

/-- A change of the platform that leaves its gates. -/
theorem State.modPlatform_platform_sameBut (s : State) (f : Platform → Platform)
    (h : (f s.platform).exitGate = s.platform.exitGate ∧ (f s.platform).entryGate = s.platform.entryGate := by
      exact ⟨rfl, rfl⟩) :
    State.sameBut [.platform] s (s.modPlatform f) := by
  intro p hp; cases p <;> simp [State.same, h] at hp ⊢

end Sys2Proof.Machine
end

