-- ==== Sys2Proof/Laws/Flags.lean ====
section
/-! SUPPORT. What the Status Unit's operations do: one lemma says what each sets, and one what it leaves alone. -/

namespace Sys2Proof

set_option Elab.async false

theorem Flag.bit_lt (f : Flag) : f.bit < 16 := by cases f <;> decide
theorem Counter.index_lt (c : Counter) : c.index < 14 := by cases c <;> decide
theorem Reason.bit_lt (r : Reason) : r.bit < 16 := by cases r <;> decide
theorem Flag.bit_inj {f g : Flag} : f.bit = g.bit ↔ f = g := by cases f <;> cases g <;> decide
theorem Counter.index_inj {c d : Counter} : c.index = d.index ↔ c = d := by cases c <;> cases d <;> decide
theorem Reason.bit_inj {r q : Reason} : r.bit = q.bit ↔ r = q := by cases r <;> cases q <;> decide

end Sys2Proof

namespace Sys2Proof.Machine

/-! ### Bits of a set -/

theorem mask_eq_twoPow (n : Nat) : BitVec.ofNat 16 (2 ^ n) = BitVec.twoPow 16 n := by
  simp [BitVec.twoPow, ← BitVec.toNat_inj, Nat.shiftLeft_eq]

/-- Bit `n` of a 16-bit set, read through its one-member mask. -/
theorem and_mask_ne_zero (w : Word) {n : Nat} (h : n < 16) : (w &&& BitVec.ofNat 16 (2 ^ n) != 0) = w.getLsbD n := by
  rw [mask_eq_twoPow, BitVec.and_twoPow]
  cases w.getLsbD n
  · rfl
  · have : 2 ^ n < 2 ^ 16 := Nat.pow_lt_pow_right (by omega) h
    have : 0 < 2 ^ n := Nat.two_pow_pos n
    simp only [if_true, bne_iff_ne, ne_eq, ← BitVec.toNat_inj, BitVec.toNat_twoPow]
    simp; omega

/-- The bits of a one-member mask. -/
theorem getLsbD_mask {n m : Nat} (h : n < 16) : (BitVec.ofNat 16 (2 ^ n)).getLsbD m = decide (m = n) := by
  rw [mask_eq_twoPow, BitVec.getLsbD_twoPow]
  by_cases k : m = n
  · simp [k, h]
  · simp [k, Ne.symm k, h]

/-- A flag is its bit of the flag set. -/
theorem State.flag_eq_bit (s : State) (f : Flag) : s.flag f = s.status.flags.getLsbD f.bit :=
  and_mask_ne_zero _ f.bit_lt

/-- A reason is its bit of the reasons set. -/
theorem hasReason_eq_bit (w : Word) (r : Reason) : hasReason w r = w.getLsbD r.bit := and_mask_ne_zero _ r.bit_lt

/-! ### Flags -/

@[simp] theorem Tap.renewFlag_pendingEnd (f : Flag) (t : Tap) : (t.renewFlag f).pendingEnd = t.pendingEnd := by
  unfold Tap.renewFlag; split <;> simp_all

@[simp] theorem Tap.renewCauses_pendingEnd (f : Causes → Causes) (t : Tap) :
    (t.renewCauses f).pendingEnd = t.pendingEnd := by
  unfold Tap.renewCauses; split <;> simp_all

/-- A renewal touches the renewal marks only (R187). -/
theorem State.renewFlag_sameBut (s : State) (f : Flag) : State.sameBut [.renewal] s (s.modTap (Tap.renewFlag f)) := by
  intro p hp
  cases p <;> simp [State.same] at hp ⊢
  unfold Tap.renewFlag; split <;> rfl

/-- A renewal touches the renewal marks only (R187). -/
theorem State.renewCauses_sameBut (s : State) (f : Causes → Causes) :
    State.sameBut [.renewal] s (s.modTap (Tap.renewCauses f)) := by
  intro p hp
  cases p <;> simp [State.same] at hp ⊢
  unfold Tap.renewCauses; split <;> rfl

/-- A change of the status part is told by what it leaves of its fields. -/
theorem State.modStatus_sameBut_of {ps : List Part} (s : State) (f : Status → Status)
    (flags : .flags ∈ ps ∨ (f s.status).flags = s.status.flags ∧ (f s.status).mask = s.status.mask)
    (counters : .counters ∈ ps ∨ (f s.status).counters = s.status.counters)
    (attention : .attention ∈ ps ∨ (f s.status).causes = s.status.causes ∧
      (f s.status).flagDetail = s.status.flagDetail ∧ (f s.status).counterDetail = s.status.counterDetail ∧
      (f s.status).newCaptures = s.status.newCaptures ∧ (f s.status).attnTimer = s.status.attnTimer) :
    State.sameBut ps s (s.modStatus f) := by
  intro p hp
  cases p <;> simp [State.same]
  · exact (flags.resolve_left hp).imp Eq.symm Eq.symm
  · exact (counters.resolve_left hp).symm
  · obtain ⟨a, b, c, d, e⟩ := attention.resolve_left hp
    exact ⟨a.symm, b.symm, c.symm, d.symm, e.symm⟩

/-- What setting a flag leaves alone (R194, R197). -/
theorem State.setFlag_sameBut (s : State) (f : Flag) :
    State.sameBut [.flags, .attention, .renewal] s (s.setFlag f) := by
  have raised : State.sameBut [.flags, .attention, .renewal] s ((s.modStatus (Status.raise f)).modTap (Tap.renewFlag f)) :=
    State.sameBut_trans
      (State.modStatus_sameBut_of s _ (by simp) (.inr rfl) (by simp))
      (State.sameBut_mono (by simp) (State.renewFlag_sameBut _ f))
  unfold State.setFlag
  simp only
  split
  · exact State.sameBut_trans raised
      (State.sameBut_trans (State.modStatus_sameBut_of _ _ (by simp) (.inr rfl) (by simp))
        (State.sameBut_mono (by simp) (State.renewCauses_sameBut _ _)))
  · exact raised

/-- The flag set after a flag is set (R194). -/
@[simp] theorem State.setFlag_flags (s : State) (f : Flag) : (s.setFlag f).status.flags = s.status.flags ||| f.mask := by
  unfold State.setFlag; simp only; split <;> rfl

/-- Setting a flag keeps the mask. -/
@[simp] theorem State.setFlag_mask (s : State) (f : Flag) : (s.setFlag f).status.mask = s.status.mask := by
  unfold State.setFlag; simp only; split <;> rfl

/-- A flag that is set is among those set in the step in progress (log 7). -/
@[simp] theorem State.setFlag_fresh (s : State) (f : Flag) : (s.setFlag f).status.fresh = s.status.fresh ||| f.mask := by
  unfold State.setFlag; simp only; split <;> rfl

/-- Every flag after one is set. -/
theorem State.setFlag_flag (s : State) (f g : Flag) : (s.setFlag f).flag g = (s.flag g || g == f) := by
  rw [State.flag_eq_bit, State.flag_eq_bit, State.setFlag_flags, BitVec.getLsbD_or, Flag.mask, getLsbD_mask f.bit_lt]
  by_cases h : g = f <;> simp [h, Flag.bit_inj]

/-! ### Counters and causes -/

/-- What latching a counter leaves alone (R196). -/
theorem State.latchCounter_sameBut (s : State) (c : Counter) :
    State.sameBut [.attention, .renewal] s (s.latchCounter c) :=
  State.sameBut_trans (State.modStatus_sameBut_of s _ (.inr ⟨rfl, rfl⟩) (.inr rfl) (by simp))
    (State.sameBut_mono (by simp) (State.renewCauses_sameBut _ _))

/-- What a counter that rises leaves alone (R196). -/
theorem State.bump_sameBut (s : State) (c : Counter) :
    State.sameBut [.counters, .attention, .renewal] s (s.bump c) := by
  have counted := State.modStatus_sameBut_of (ps := [.counters, .attention, .renewal]) s
    (fun u => { u with counters := u.counters.set c.index (raisedCount (s.counter c)) }) (.inr ⟨rfl, rfl⟩) (by simp)
    (.inr ⟨rfl, rfl, rfl, rfl, rfl⟩)
  unfold State.bump
  simp only
  split
  · exact State.sameBut_trans counted
      (State.sameBut_trans
        (State.modStatus_sameBut_of _ _ (.inr ⟨rfl, rfl⟩) (.inr rfl) (.inr ⟨rfl, rfl, rfl, rfl, rfl⟩))
        (State.sameBut_mono (by simp) (State.latchCounter_sameBut _ c)))
  · exact counted

/-- The counters after one has risen (R196). -/
@[simp] theorem State.bump_counters (s : State) (c : Counter) :
    (s.bump c).status.counters = s.status.counters.set c.index (raisedCount (s.counter c)) := by
  unfold State.bump; simp only; split <;> rfl

/-- Every counter after one has risen. -/
theorem State.bump_counter (s : State) (c d : Counter) (h : s.status.counters.length = 14) :
    (s.bump c).counter d = if d = c then raisedCount (s.counter d) else s.counter d := by
  have hc := c.index_lt
  unfold State.counter
  rw [State.bump_counters]
  by_cases e : d = c
  · subst e
    simp [List.getD_eq_getElem?_getD, List.getElem?_set_self (h ▸ hc), State.counter]
  · have : c.index ≠ d.index := fun k => e (Counter.index_inj.mp k).symm
    simp [List.getD_eq_getElem?_getD, List.getElem?_set_ne this, e]

theorem raisedCount_le (n : Nat) (h : n ≤ 65535) : raisedCount n ≤ 65535 := by
  unfold raisedCount; split <;> omega

/-- What latching a capture cause leaves alone (R197). -/
theorem State.latchCaptureCount_sameBut (s : State) : State.sameBut [.attention, .renewal] s s.latchCaptureCount :=
  State.sameBut_trans (State.modStatus_sameBut_of s _ (.inr ⟨rfl, rfl⟩) (.inr rfl) (by simp))
    (State.sameBut_mono (by simp) (State.renewCauses_sameBut _ _))

/-- What latching a capture cause leaves alone (R197). -/
theorem State.latchCaptureTimer_sameBut (s : State) : State.sameBut [.attention, .renewal] s s.latchCaptureTimer :=
  State.sameBut_trans (State.modStatus_sameBut_of s _ (.inr ⟨rfl, rfl⟩) (.inr rfl) (by simp))
    (State.sameBut_mono (by simp) (State.renewCauses_sameBut _ _))

/-- What counting a capture leaves alone (R197). -/
theorem State.noteCapture_sameBut (s : State) : State.sameBut [.attention, .renewal] s s.noteCapture := by
  have counted := State.modStatus_sameBut_of (ps := [.attention, .renewal]) s Status.countCapture (.inr ⟨rfl, rfl⟩)
    (.inr rfl) (by simp)
  unfold State.noteCapture
  simp only
  split
  · split
    · exact State.sameBut_trans counted (State.latchCaptureCount_sameBut _)
    · exact counted
  · exact State.sameBut_refl _ s

/-- What counting a mark for the attention timer leaves alone (R197). -/
theorem State.countAttentionMark_sameBut (s : State) :
    State.sameBut [.attention, .renewal] s s.countAttentionMark := by
  have counted := State.modStatus_sameBut_of (ps := [.attention, .renewal]) s
    (fun u => { u with attnTimer := u.attnTimer.map (· + 1) }) (.inr ⟨rfl, rfl⟩) (.inr rfl) (by simp)
  unfold State.countAttentionMark
  simp only
  split
  · exact State.sameBut_refl _ s
  · split
    · exact State.sameBut_trans counted (State.latchCaptureTimer_sameBut _)
    · exact counted

end Sys2Proof.Machine
end

