-- ==== Sys2Proof/Laws/Ops.lean ====
section
/-! SUPPORT. What the shared operations do: roster entries, the transmit queue's offers, the end of a command, and the
four ways in which a command answers. -/

namespace Sys2Proof.Machine

set_option Elab.async false

/-- Changing the item at a place, where there is one. -/
theorem match_set_eq_modify {α : Type} (l : List α) (n : Nat) (f : α → α) :
    (match l[n]? with
      | some e => l.set n (f e)
      | none => l) = l.modify n f := by
  apply List.ext_getElem?
  intro i
  cases h : l[n]? with
  | none =>
    by_cases e : n = i
    · subst e; simp [h]
    · simp [e]
  | some x =>
    obtain ⟨hn, hx⟩ := List.getElem?_eq_some_iff.mp h
    by_cases e : n = i
    · subst e; simp [hn, hx]
    · simp [List.getElem?_set_ne e, e]

/-! ### The roster -/

/-- An entry after one has been changed. -/
theorem State.modEntry_entryAt (s : State) (n m : Nat) (f : RosterEntry → RosterEntry) (h : n < s.roster.length) :
    (s.modEntry n f).entryAt m = if m = n then f (s.entryAt m) else s.entryAt m := by
  unfold State.modEntry State.entryAt
  simp only [State.modRoster_roster, List.getElem?_eq_getElem h]
  by_cases e : m = n
  · subst e; simp [List.getD_eq_getElem?_getD, h]
  · simp [List.getD_eq_getElem?_getD, List.getElem?_set_ne (Ne.symm e), e]

/-! ### The transmit queue (R13 to R16) -/

/-- What an offer leaves alone. -/
theorem State.queueOffer_sameBut (s : State) (cls : FrameClass) (body : List Byte) (stagger : Option Nat) :
    State.sameBut queueParts s (s.queueOffer cls body stagger).2 := by
  have touch (t : State) (l : Line) (h : l = { t.line with queue := l.queue }) :
      State.sameBut queueParts t (t.modLine fun _ => l) := by
    intro p hp
    cases p <;> simp [State.same, queueParts, statusParts] at hp ⊢ <;> rw [h]
  have counts (t : State) (c : Counter) : State.sameBut queueParts t (t.bump c) :=
    State.sameBut_mono (by simp [queueParts, statusParts]) (State.bump_sameBut t c)
  unfold State.queueOffer
  split
  · exact State.sameBut_refl _ s
  split
  · exact counts s _
  split
  · exact touch s _ rfl
  split
  · exact touch s _ rfl
  split
  · exact counts s _
  split
  · exact State.sameBut_trans (touch s _ rfl) (counts _ _)
  · exact State.sameBut_mono (by simp [queueParts, statusParts]) (State.setFlag_sameBut s _)

/-- Outside JOINED an offer changes nothing (R15), the peers-congested flag set or not (log 46). -/
theorem State.queueOffer_of_not_joined (s : State) (cls : FrameClass) (body : List Byte) (stagger : Option Nat)
    (away : s.mode ≠ .joined) : s.queueOffer cls body stagger = (.discarded, s) := if_pos away

/-- A frame of a kind that is not single, offered where there is room, takes the next place (R13, R14). -/
theorem State.queueOffer_of_room (s : State) (cls : FrameClass) (body : List Byte) (stagger : Option Nat)
    (single : FrameClass.single cls = false) (room : s.hasRoom) :
    s.queueOffer cls body stagger =
      (.taken, s.modLine fun l => { l with queue := l.queue ++ [TxEntry.fresh cls body stagger] }) := by
  obtain ⟨joined, short, free⟩ := room
  simp [State.queueOffer, joined, short, free, single]

/-- What offering a MARK leaves alone (R27, R28). -/
theorem State.offerMark_sameBut (s : State) : State.sameBut queueParts s s.offerMark := by
  have h := State.queueOffer_sameBut s .mark [] none
  unfold State.offerMark
  split <;> rename_i heq <;> rw [heq] at h
  · split
    · refine State.sameBut_trans h ?_
      intro p hp
      cases p <;> simp [State.same, queueParts] at hp ⊢
    · exact h
  · exact h
  · exact h

/-- What the leaving of an entry may bring: a waiting MARK is offered (R28). -/
theorem State.entryLeft_sameBut (s : State) : State.sameBut queueParts s s.entryLeft := by
  unfold State.entryLeft
  split
  · refine State.sameBut_trans ?_ (State.offerMark_sameBut _)
    intro p hp
    cases p <;> simp [State.same, queueParts] at hp ⊢
  · exact State.sameBut_refl _ s

/-- What an offer of a frame that is no MARK leaves alone. -/
theorem State.offer_sameBut (s : State) (cls : FrameClass) (body : List Byte) (stagger : Option Nat) :
    State.sameBut queueParts s (s.offer cls body stagger).2 := by
  have h := State.queueOffer_sameBut s cls body stagger
  unfold State.offer
  split <;> rename_i heq <;> rw [heq] at h
  · exact h
  · exact State.sameBut_trans h (State.entryLeft_sameBut _)
  · exact h

/-- A frame of a kind that is not single is taken where there is room. -/
theorem State.offer_of_room (s : State) (cls : FrameClass) (body : List Byte) (stagger : Option Nat)
    (single : FrameClass.single cls = false) (room : s.hasRoom) :
    s.offer cls body stagger =
      (true, s.modLine fun l => { l with queue := l.queue ++ [TxEntry.fresh cls body stagger] }) := by
  simp [State.offer, State.queueOffer_of_room s cls body stagger single room]

theorem NoticeKind.not_single (k : NoticeKind) : FrameClass.single k.cls = false := by cases k <;> rfl

/-- What a notice leaves alone (R167). -/
theorem State.notice_sameBut (s : State) (kind : NoticeKind) (cabin : Option Nat) (v1 v2 : Nat) :
    State.sameBut queueParts s (s.notice kind cabin v1 v2) := State.offer_sameBut s _ _ _

/-- A notice where there is room (R167). -/
theorem State.notice_of_room (s : State) (kind : NoticeKind) (cabin : Option Nat) (v1 v2 : Nat) (room : s.hasRoom) :
    s.notice kind cabin v1 v2 =
      s.modLine fun l => { l with queue := l.queue ++ [TxEntry.fresh kind.cls (noticeBody kind cabin v1 v2) none] } := by
  simp [State.notice, State.offer_of_room s _ _ none (NoticeKind.not_single kind) room]

/-- What a reply leaves alone (R166). -/
theorem State.reply_sameBut (s : State) (asker tag : Byte) (answer : Answer) :
    State.sameBut queueParts s (s.reply asker tag answer) := State.offer_sameBut s _ _ _

/-- A reply where there is room (R166). -/
theorem State.reply_of_room (s : State) (asker tag : Byte) (answer : Answer) (room : s.hasRoom) :
    s.reply asker tag answer =
      s.modLine fun l => { l with queue := l.queue ++ [TxEntry.fresh .reply (replyBody asker tag answer) none] } := by
  simp [State.reply, State.offer_of_room s _ _ none (show FrameClass.single .reply = false from rfl) room]

/-- A restart touches the converter only (R151). -/
theorem State.restartConverter_sameBut (s : State) : State.sameBut [.conv] s s.restartConverter :=
  State.modConv_sameBut s _

/-! ### The end of a command -/

/-- The gate commands are the only thing R114 changes. -/
theorem State.updateGates_sameBut (s : State) : State.sameBut [.gates] s s.updateGates := by
  unfold State.updateGates
  split
  · intro p hp
    cases p <;> simp [State.same] at hp ⊢
  · exact State.sameBut_refl _ s

/-- The working side is the only thing R37 changes between marks. -/
theorem State.writeWorking_sameBut (s : State) : State.sameBut [.working] s s.writeWorking := by
  intro p hp
  cases p <;> simp [State.same, State.writeWorking] at hp ⊢

/-- The end of a command changes the followers only. -/
theorem State.settle_sameBut (s : State) : State.sameBut followers s s.settle := by
  have forget (t : State) : State.sameBut followers t t.forget := by
    intro p hp
    cases p <;> simp [State.same, State.forget, followers] at hp ⊢
  exact State.sameBut_trans
    (State.sameBut_mono (by simp [followers]) (State.updateGates_sameBut s))
    (State.sameBut_trans (State.sameBut_mono (by simp [followers]) (State.writeWorking_sameBut _)) (forget _))

/-! ### How a command answers -/

/-- A command whose trigger stands acts; else nothing changes. -/
theorem occurs_eq (guard : State → Bool) (effect : State → State) (s : State) :
    occurs guard effect s = .next (if s.resetHeld = false ∧ guard s = true then (effect s).settle else s) := by
  unfold occurs; split <;> rfl

theorem occurs_of (guard : State → Bool) (effect : State → State) {s : State} (held : s.resetHeld = false)
    (h : guard s = true) : occurs guard effect s = .next (effect s).settle := by simp [occurs, held, h]

theorem occurs_not (guard : State → Bool) (effect : State → State) {s : State} (h : guard s = false) :
    occurs guard effect s = .next s := by simp [occurs, h]

/-- A timer that runs expires after the time it has left. -/
theorem expires_of (timer : State → Option Nat) (effect : State → State) {s : State} {t : Nat}
    (held : s.resetHeld = false) (h : timer s = some t) : expires timer effect s = .next (effect (s.elapse t)).settle := by
  simp [expires, held, h]

theorem expires_not (timer : State → Option Nat) (effect : State → State) {s : State} (h : timer s = none) :
    expires timer effect s = .next s := by simp [expires, h]

/-- An expiry answers a next state: the old one, or the effect after the time left. -/
theorem expires_cases (timer : State → Option Nat) (effect : State → State) (s : State) :
    expires timer effect s = .next s ∨
      ∃ t, timer s = some t ∧ s.resetHeld = false ∧ expires timer effect s = .next (effect (s.elapse t)).settle := by
  cases h : timer s with
  | none => exact .inl (expires_not timer effect h)
  | some t =>
    cases r : s.resetHeld with
    | false => exact .inr ⟨t, rfl, rfl, expires_of timer effect r h⟩
    | true => exact .inl (by simp [expires, h, r])

/-! ### Field inputs (R2) -/

/-- The level of each input after one has been set. -/
theorem State.setFi_input (s : State) (n m : Nat) (level : Bool) (h : n < 24) :
    (s.setFi n level).input m = if m = n then level else s.input m := by
  unfold State.input State.setFi
  have bit : (BitVec.ofNat 24 (2 ^ n)).getLsbD m = decide (m = n) := by
    simp only [BitVec.getLsbD_ofNat, Nat.testBit_two_pow]
    by_cases e : m = n
    · subst e; simp [h]
    · simp [e, Ne.symm e]
  cases level
  · simp only [Bool.false_eq_true, if_false, BitVec.getLsbD_and, BitVec.getLsbD_not, bit]
    by_cases e : m = n
    · simp [e]
    · by_cases k : m < 24
      · simp [e, k]
      · simp [e, k, BitVec.getLsbD_of_ge s.fi m (by omega)]
  · simp only [if_true, BitVec.getLsbD_or, bit]
    by_cases e : m = n <;> simp [e]

/-- An input that takes a level, and its filter. -/
theorem State.takeInput_taken (s : State) (n : Nat) (level : Bool) (h : n < 24) :
    State.inputTaken n level s (s.takeInput n level) :=
  ⟨fun m => (State.setFi_input s n m level h : _), rfl⟩

theorem State.takeInput_sameBut (s : State) (n : Nat) (level : Bool) :
    State.sameBut [.fi, .filter] s (s.takeInput n level) :=
  State.sameBut_append (State.setFi_sameBut s n level) (State.startFilter_sameBut _ _ _)

theorem State.takePulse_sameBut (s : State) (n : Nat) : State.sameBut [.filter] s (s.takePulse n) :=
  State.startFilter_sameBut s n _

/-- An input of the own role that changes, its last change 5 ms old, acts in a running station. -/
theorem inputChange_of (role : Role) (line : Nat) (level : Bool) (effect : State → State) {s : State}
    (run : s.running) (own : s.role = role) (old : s.input line = !level) (steady : s.filterPassed line = true) :
    inputChange role line level effect s = .next (effect (s.takeInput line level)).settle := by
  obtain ⟨held, rec⟩ := run
  cases level <;> simp_all [inputChange]

/-- An input that holds the level already changes nothing. -/
theorem inputChange_same (role : Role) (line : Nat) (level : Bool) (effect : State → State) {s : State}
    (old : s.input line = level) : inputChange role line level effect s = .next s := by simp [inputChange, old]

/-- An input that returns before its last change is 5 ms old has not changed (R2). -/
theorem inputChange_early (role : Role) (line : Nat) (level : Bool) (effect : State → State) {s : State}
    (held : s.resetHeld = false) (early : s.filterPassed line = false) :
    inputChange role line level effect s = .next s := by
  unfold inputChange
  simp [held, early]

/-- A pulse of the own role acts in a running station. -/
theorem inputPulse_of (role : Role) (line : Nat) (effect : State → State) {s : State} (run : s.running)
    (own : s.role = role) (steady : s.filterPassed line = true) :
    inputPulse role line effect s = .next (effect (s.takePulse line)).settle :=
  occurs_of _ _ run.1 (by simp [run.2, own, steady])

/-- A pulse that has not had the time to come again changes nothing (R2). -/
theorem inputPulse_early (role : Role) (line : Nat) (effect : State → State) {s : State}
    (early : s.filterPassed line = false) : inputPulse role line effect s = .next s :=
  occurs_not _ _ (by simp [early])

/-! ### Time (log 2) -/

/-- What the passing of time may change. -/
abbrev clockParts : List Part :=
  [.filter, .loader, .queue, .idle, .line, .round, .drive, .cabin, .gates, .wind, .conv]

theorem State.elapse_sameBut (dt : Nat) (s : State) : State.sameBut clockParts s (s.elapse dt) := by
  intro p hp
  cases p <;> simp [State.same, Round.elapse, Platform.elapse] at hp ⊢
  split <;> rfl

/-- Time changes nothing that says whether a frame is heard or an input taken. -/
@[simp] theorem State.elapse_role (dt : Nat) (s : State) : (s.elapse dt).role = s.role := rfl

@[simp] theorem Line.elapse_sending (dt : Nat) (l : Line) : (l.elapse dt).sending = l.sending := by
  simp [Line.sending, Line.elapse, TxEntry.elapse, List.any_map, Function.comp_def]

/-! ### The step -/

theorem step_cons (c : Instr) (rest : List Instr) (s : State) (h : s.pending = c :: rest) :
    step s = exec c { s with pending := rest } := by simp [step, h]

theorem step_idle (s : State) (h : s.pending = []) :
    step s = .next (if s.resetHeld then s else s.elapse 1) := by
  simp only [step, h]; split <;> rfl

end Sys2Proof.Machine
end

