-- ==== Sys2Proof/Laws/Agreement.lean ====
section
/-! SUPPORT. What the operations of the Cabin Replica and of the Agreement Unit do (chapters 3 and 4). -/

namespace Sys2Proof.Machine

set_option Elab.async false

/-! ### Levels -/

/-- The more restrictive of two levels (R46). -/
theorem Level.toNat_min (a b : Level) : (Level.min a b).toNat = Nat.min a.toNat b.toNat := by
  cases a <;> cases b <;> rfl

theorem Level.toNat_inj {a b : Level} (h : a.toNat = b.toNat) : a = b := by cases a <;> cases b <;> cases h <;> rfl

/-- A fold of `min` is at or below its start and each level. -/
theorem foldl_min_le (votes : List Level) (start : Level) :
    (votes.foldl Level.min start).toNat ≤ start.toNat ∧ ∀ v ∈ votes, (votes.foldl Level.min start).toNat ≤ v.toNat := by
  induction votes generalizing start with
  | nil => exact ⟨Nat.le_refl _, by simp⟩
  | cons v rest ih =>
    obtain ⟨low, all⟩ := ih (Level.min start v)
    rw [Level.toNat_min] at low
    refine ⟨Nat.le_trans low (Nat.min_le_left _ _), ?_⟩
    intro x hx
    rcases List.mem_cons.mp hx with rfl | hx
    · exact Nat.le_trans low (Nat.min_le_right _ _)
    · exact all x hx

/-- A fold of `min` is its start or one of the levels. -/
theorem foldl_min_mem (votes : List Level) (start : Level) :
    votes.foldl Level.min start = start ∨ votes.foldl Level.min start ∈ votes := by
  induction votes generalizing start with
  | nil => exact .inl rfl
  | cons v rest ih =>
    rw [List.foldl_cons]
    rcases ih (Level.min start v) with h | h
    · rw [h]
      unfold Level.min
      split
      · exact .inl rfl
      · exact .inr (List.mem_cons_self ..)
    · exact .inr (List.mem_cons_of_mem v h)

/-- The agreed level is at most CRUISE, at most every vote, and CRUISE or one of the votes (R49). -/
theorem agreedLevel_spec (votes : List Level) :
    (agreedLevel votes).toNat ≤ Level.cruise.toNat ∧ (∀ v ∈ votes, (agreedLevel votes).toNat ≤ v.toNat) ∧
      (agreedLevel votes = .cruise ∨ agreedLevel votes ∈ votes) :=
  ⟨(foldl_min_le votes .cruise).1, (foldl_min_le votes .cruise).2, foldl_min_mem votes .cruise⟩

/-- The agreed level is never NONE (R49). -/
theorem agreedLevel_ne_noLimit (votes : List Level) : agreedLevel votes ≠ .noLimit := by
  intro h
  have := (agreedLevel_spec votes).1
  rw [h] at this
  exact absurd this (by decide)

/-! ### Frames -/

/-- The agreement of a mark (R49, R50). -/
theorem State.computeAgreement_sameBut (s : State) (closed : Byte) :
    State.sameBut [.agreement] s (s.computeAgreement closed) := State.modAgreement_sameBut s _

/-- The skew check (R53). -/
theorem State.checkSkew_sameBut (s : State) :
    State.sameBut [.agreement, .flags, .attention, .renewal] s s.checkSkew := by
  unfold State.checkSkew
  dsimp only
  split
  · exact State.sameBut_then (State.modAgreement_sameBut s _) (State.sameBut_weaken (State.setFlag_sameBut _ _))
  · exact State.sameBut_weaken (State.modAgreement_sameBut s _)

/-- The agreement reset (R51). -/
theorem State.resetAgreement_sameBut (s : State) : State.sameBut [.agreement] s s.resetAgreement :=
  State.modAgreement_sameBut s _

/-- The comparison of the level of a heard MARK (R52). -/
theorem State.compareLevel_sameBut (s : State) (code : Byte) :
    State.sameBut [.flags, .attention, .renewal] s (s.compareLevel code) := by
  unfold State.compareLevel
  split
  · exact State.sameBut_refl _ s
  · exact State.setFlag_sameBut s _

/-- A cabin record changes alone (R69, R70). -/
theorem State.modRecord_sameBut (s : State) (i : Nat) (f : CabinRecord → CabinRecord) :
    State.sameBut [.replica] s (s.modRecord i f) := State.modReplica_sameBut s _

/-- A record after one has changed. -/
theorem State.modRecord_record (s : State) (i j : Nat) (f : CabinRecord → CabinRecord)
    (h : i < s.replica.records.length) :
    (s.modRecord i f).record j = if j = i then f (s.record j) else s.record j := by
  unfold State.modRecord State.record
  simp only [State.modReplica_replica, List.getElem?_eq_getElem h]
  by_cases e : j = i
  · subst e; simp [List.getD_eq_getElem?_getD, h]
  · simp [List.getD_eq_getElem?_getD, List.getElem?_set_ne (Ne.symm e), e]

/-- What a CABIN STATE that reaches the replica leaves alone (R68 to R71). -/
theorem State.takeCabinState_sameBut (s : State) (sender : Nat) (round : Byte) (b : Statement) :
    State.sameBut [.replica, .flags, .attention, .renewal] s (s.takeCabinState sender round b) := by
  unfold State.takeCabinState
  split
  · exact State.sameBut_refl _ s
  · simp only
    split
    · exact State.sameBut_weaken (State.modRecord_sameBut s _ _)
    · exact State.sameBut_weaken (State.setFlag_sameBut s _)

/-- Ageing (R72). -/
theorem State.ageReplica_sameBut (s : State) : State.sameBut [.replica] s s.ageReplica := State.modReplica_sameBut s _

/-- The comparison of the replica with a heard MARK (R75). -/
theorem State.compareReplica_sameBut (s : State) (count digest : Nat) :
    State.sameBut [.replica, .flags, .attention, .renewal] s (s.compareReplica count digest) := by
  unfold State.compareReplica
  split
  · exact State.sameBut_weaken (State.modReplica_sameBut s _)
  · exact State.sameBut_then (State.modReplica_sameBut s _) (State.sameBut_weaken (State.setFlag_sameBut _ _))

end Sys2Proof.Machine
end

