-- ==== Sys2Proof/Laws/Cabin.lean ====
section
/-! SUPPORT. What the Cabin Sequencer's operations do (chapter 5). -/

namespace Sys2Proof.Machine

set_option Elab.async false

/-- Door and converter together: what an opening, a close and their steps touch. -/
abbrev doorParts : List Part := [.cabin, .conv]

theorem State.modCabin_door (s : State) (f : Cabin → Cabin) : State.sameBut doorParts s (s.modCabin f) :=
  State.sameBut_weaken (State.modCabin_sameBut s f)

/-- A change of the cabin that is a door event (R92). -/
theorem State.doorEvent_sameBut (s : State) (f : Cabin → Cabin) :
    State.sameBut doorParts s (s.modCabin f).restartConverter :=
  State.sameBut_trans (State.modCabin_door s f) (State.sameBut_weaken (State.restartConverter_sameBut _))

/-- A notice of the cabin (R167). -/
theorem State.cabinNotice_sameBut (s : State) (kind : NoticeKind) (v1 v2 : Nat) :
    State.sameBut queueParts s (s.cabinNotice kind v1 v2) := State.notice_sameBut s _ _ _ _

/-- Entry to DOOR_FAULT (R91). -/
theorem State.doorFault_sameBut (s : State) (cause : DoorCause) :
    State.sameBut (.cabin :: queueParts) s (s.doorFault cause) :=
  State.sameBut_then (State.modCabin_sameBut s _) (State.sameBut_weaken (State.cabinNotice_sameBut _ _ _ _))

/-- An opening (R86). -/
theorem State.beginOpening_sameBut (s : State) : State.sameBut doorParts s s.beginOpening :=
  State.sameBut_ite (State.sameBut_trans (State.doorEvent_sameBut s _) (State.modCabin_door _ _))
    (State.doorEvent_sameBut s _)

/-- The cabin after the beginning of an opening (R86). -/
theorem State.beginOpening_cabin (s : State) : s.beginOpening.cabin = Cabin.opensFrom s.openEnd s.cabin := by
  unfold State.beginOpening
  have h : ((s.modCabin Cabin.startOpening).restartConverter).openEnd = s.openEnd := rfl
  simp only [h]
  cases s.openEnd <;> rfl

theorem State.beginWeighing_sameBut (s : State) : State.sameBut doorParts s s.beginWeighing :=
  State.doorEvent_sameBut s _

theorem State.beginLatchWait_sameBut (s : State) : State.sameBut doorParts s s.beginLatchWait :=
  State.sameBut_ite (State.sameBut_trans (State.doorEvent_sameBut s _) (State.beginWeighing_sameBut _))
    (State.doorEvent_sameBut s _)

/-- A close movement (R87). -/
theorem State.beginMovement_sameBut (s : State) : State.sameBut doorParts s s.beginMovement :=
  State.sameBut_ite (State.sameBut_trans (State.doorEvent_sameBut s _) (State.beginLatchWait_sameBut _))
    (State.doorEvent_sameBut s _)

theorem State.beginClose_sameBut (s : State) : State.sameBut doorParts s s.beginClose :=
  State.sameBut_trans (State.modCabin_door s _) (State.beginMovement_sameBut _)

/-- The end of a reversal (R89). -/
theorem State.finishReversal_sameBut (s : State) : State.sameBut (.cabin :: queueParts) s s.finishReversal :=
  State.sameBut_ite (State.sameBut_then (State.modCabin_sameBut s _) (State.sameBut_weaken (State.modCabin_sameBut _ _)))
    (State.sameBut_then (State.modCabin_sameBut s _) (State.doorFault_sameBut _ _))

/-- A reversal (R89). -/
theorem State.reverse_sameBut (s : State) : State.sameBut (.cabin :: .conv :: queueParts) s s.reverse :=
  State.sameBut_ite
    (State.sameBut_then (State.doorEvent_sameBut s _) (State.sameBut_weaken (State.finishReversal_sameBut _)))
    (State.sameBut_weaken (State.doorEvent_sameBut s _))

/-! ### Weighing (R93, R94) -/

theorem State.weighedNotices_sameBut (s : State) (load : Nat) (entered : Phase) :
    State.sameBut (.cabin :: queueParts) s (s.weighedNotices load entered) := by
  have emptied : State.sameBut (.cabin :: queueParts) s
      (if s.cabin.occupancy = none ∧ load < emptyThreshold then s.modCabin fun c => { c with occupancy := some 0 }
        else s) :=
    State.sameBut_ite (State.sameBut_weaken (State.modCabin_sameBut s _)) (State.sameBut_refl _ s)
  unfold State.weighedNotices
  refine State.sameBut_trans (State.sameBut_trans emptied ?_) (State.sameBut_weaken (State.cabinNotice_sameBut _ _ _ _))
  generalize (if s.cabin.occupancy = none ∧ load < emptyThreshold then
    s.modCabin fun c => { c with occupancy := some 0 } else s) = t
  cases t.cabin.occupancy with
  | none => exact State.sameBut_refl _ t
  | some n => exact State.sameBut_ite (State.sameBut_weaken (State.cabinNotice_sameBut t _ _ _)) (State.sameBut_refl _ t)

/-- A result taken as the weighing (R93). -/
theorem State.judgeWeighing_sameBut (s : State) (r : Result) :
    State.sameBut (.cabin :: queueParts) s (s.judgeWeighing r) := by
  have two (f g : Cabin → Cabin) (load : Nat) (p : Phase) :
      State.sameBut (.cabin :: queueParts) s (((s.modCabin f).modCabin g).weighedNotices load p) :=
    State.sameBut_then (State.modCabin_sameBut s f)
      (State.sameBut_then (State.modCabin_sameBut _ g) (State.weighedNotices_sameBut _ _ _))
  unfold State.judgeWeighing
  split
  · exact State.sameBut_weaken (State.modCabin_sameBut s _)
  · exact State.sameBut_ite (two _ _ _ _) (two _ _ _ _)

/-- A delivered LOAD result (R153). -/
theorem State.deliverLoad_sameBut (s : State) (r : Result) :
    State.sameBut (.cabin :: queueParts) s (s.deliverLoad r) :=
  State.sameBut_ite (State.judgeWeighing_sameBut s r) (State.sameBut_refl _ s)

/-! ### Position notices and asks -/

/-- What a marker's notice may change: the cabin, its converter, and the queue by a notice of the cabin. -/
abbrev positionParts : List Part := .cabin :: .conv :: queueParts

theorem State.modCabin_position (s : State) (f : Cabin → Cabin) : State.sameBut positionParts s (s.modCabin f) :=
  State.sameBut_weaken (State.modCabin_sameBut s f)

/-- ARRIVE (R82). -/
theorem State.onArrive_sameBut (s : State) (value : Nat) : State.sameBut positionParts s (s.onArrive value) := by
  have opens (t : State) : State.sameBut positionParts t t.beginOpening :=
    State.sameBut_weaken (State.beginOpening_sameBut t)
  unfold State.onArrive
  refine State.sameBut_trans (State.modCabin_position s fun c => { c with marker := .arrive }) ?_
  change State.sameBut positionParts (s.setMarker .arrive) _
  dsimp only
  generalize s.setMarker .arrive = t
  cases t.cabin.phase <;> dsimp only <;>
    first
    | exact State.sameBut_refl _ t
    | (split <;> first | exact opens t | exact State.modCabin_position t _)

/-- CLOSE (R83). -/
theorem State.onClose_sameBut (s : State) (value : Nat) : State.sameBut positionParts s (s.onClose value) := by
  unfold State.onClose
  dsimp only
  generalize h : (s.setMarker .close).modCabin _ = t
  refine State.sameBut_trans (h ▸ State.sameBut_trans (State.modCabin_position s _) (State.modCabin_position _ _)) ?_
  cases t.cabin.phase <;>
    first
    | exact State.sameBut_refl _ t
    | exact State.sameBut_weaken (State.beginClose_sameBut t)

/-- A DEPART that finds the cabin not ready (R84, R85). -/
theorem State.departUnready_sameBut (s : State) : State.sameBut positionParts s s.departUnready :=
  State.sameBut_ite (State.modCabin_position s _)
    (State.sameBut_trans (State.modCabin_position s _) (State.sameBut_weaken (State.cabinNotice_sameBut _ _ _ _)))

/-- DEPART (R84). -/
theorem State.onDepart_sameBut (s : State) : State.sameBut positionParts s s.onDepart := by
  unfold State.onDepart
  refine State.sameBut_trans (State.modCabin_position s fun c => { c with marker := .depart }) ?_
  change State.sameBut positionParts (s.setMarker .depart) _
  dsimp only
  generalize s.setMarker .depart = t
  cases t.cabin.phase <;>
    first
    | exact State.departUnready_sameBut t
    | exact State.modCabin_position t _

/-- What a NOTICE delivered to the cabin may change (R81 to R85). -/
theorem State.takePositionNotice_sameBut (s : State) (sender : Nat) (body : List Byte) :
    State.sameBut positionParts s (s.takePositionNotice sender body) := by
  unfold State.takePositionNotice
  refine State.sameBut_ite ?_ (State.sameBut_refl _ s)
  split
  · exact State.onArrive_sameBut s _
  · exact State.modCabin_position s _
  · exact State.onClose_sameBut s _
  · exact State.onDepart_sameBut s
  all_goals exact State.sameBut_refl _ s

/-- The depart mark count at a mark (R85). -/
theorem State.cabinMark_sameBut (s : State) : State.sameBut [.cabin] s s.cabinMark :=
  State.sameBut_ite
    (State.sameBut_ite (State.sameBut_trans (State.modCabin_sameBut s _) (State.modCabin_sameBut _ _))
      (State.modCabin_sameBut s _))
    (State.sameBut_refl _ s)

/-- What an ask at the cabin may change (R96 to R99). -/
theorem State.askDoorOpen_sameBut (s : State) : State.sameBut doorParts s s.askDoorOpen.2 := by
  unfold State.askDoorOpen
  cases s.cabin.phase <;> dsimp only <;>
    first
    | exact State.sameBut_refl _ s
    | (split
       · exact State.beginOpening_sameBut s
       · split
         · exact State.beginOpening_sameBut s
         · exact State.sameBut_refl _ s)

theorem State.askDoorClose_sameBut (s : State) : State.sameBut doorParts s s.askDoorClose.2 := by
  unfold State.askDoorClose
  cases s.cabin.phase <;> first | exact State.sameBut_refl _ s | exact State.beginClose_sameBut s

theorem State.askDwell_sameBut (s : State) : State.sameBut doorParts s s.askDwell.2 := by
  unfold State.askDwell
  split
  · exact State.modCabin_door s _
  · exact State.sameBut_refl _ s

theorem State.askDwellEnd_sameBut (s : State) : State.sameBut doorParts s s.askDwellEnd.2 := by
  unfold State.askDwellEnd
  split
  · exact State.modCabin_door s _
  · exact State.sameBut_refl _ s

end Sys2Proof.Machine
end

