-- ==== Sys2Proof/Laws/Capture.lean ====
section
/-! SUPPORT. What the Capture Store's operations do (section 11.4). -/

namespace Sys2Proof.Machine

set_option Elab.async false

/-- What an offer to the Capture Store leaves alone (R191). -/
theorem State.offerCapture_sameBut (s : State) (header sender round : Byte) (body : List Byte) (own : Bool) :
    State.sameBut (.capture :: statusParts) s (s.offerCapture header sender round body own) := by
  unfold State.offerCapture
  dsimp only
  split
  · split
    · exact State.sameBut_then (State.modCapture_sameBut s _)
        (State.sameBut_then (State.bump_sameBut _ _) (State.sameBut_weaken (State.setFlag_sameBut _ _)))
    · exact State.sameBut_then (State.modCapture_sameBut s _)
        (State.sameBut_then (State.modCapture_sameBut _ _) (State.sameBut_weaken (State.noteCapture_sameBut _)))
  · exact State.sameBut_refl _ s

/-- With the switch off, or a frame no selector wants, nothing is captured (R191). -/
theorem State.offerCapture_not (s : State) (header sender round : Byte) (body : List Byte) (own : Bool)
    (h : s.capture.on = false ∨ s.capture.wants header sender body = false) :
    s.offerCapture header sender round body own = s := by
  rcases h with h | h <;> simp [State.offerCapture, h]

/-- Releasing keeps the write place, the sequence, the selectors and the switch (R192). -/
theorem CaptureStore.release_keeps (n : Nat) (u : CaptureStore) :
    (u.release n).writePlace = u.writePlace ∧ (u.release n).sequence = u.sequence ∧
      (u.release n).selectors = u.selectors ∧ (u.release n).on = u.on ∧ (u.release n).congested = u.congested ∧
      (u.release n).slots.length = u.slots.length := by
  induction n generalizing u with
  | zero => exact ⟨rfl, rfl, rfl, rfl, rfl, rfl⟩
  | succ n ih =>
    unfold CaptureStore.release
    split
    · obtain ⟨a, b, c, d, e, f⟩ := ih { u with slots := _, releasePlace := _ }
      exact ⟨a, b, c, d, e, by simpa using f⟩
    · exact ⟨rfl, rfl, rfl, rfl, rfl, rfl⟩
    · exact ⟨rfl, rfl, rfl, rfl, rfl, rfl⟩

/-- READER and DEVICE slots are all the slots (R190). -/
theorem CaptureStore.readers_add_devices (u : CaptureStore) : u.readers + u.devices = u.slots.length := by
  unfold CaptureStore.readers CaptureStore.devices
  induction u.slots with
  | nil => rfl
  | cons x xs ih => cases h : x.reader <;> simp [h] <;> omega

/-- The congested decision touches the Capture Store only (R193). -/
theorem State.decideCongested_sameBut (s : State) : State.sameBut [.capture] s s.decideCongested :=
  State.modCapture_sameBut s _

end Sys2Proof.Machine
end

