-- ==== Sys2Proof/Laws/Drive.lean ====
section
/-! SUPPORT. What the Drive Sequencer's operations do (section 3.4). -/

namespace Sys2Proof.Machine

set_option Elab.async false

theorem State.watchFaultClear_sameBut (s : State) : State.sameBut [.drive] s s.watchFaultClear :=
  State.modDrive_sameBut s _

theorem State.startBrakeCheck_sameBut (s : State) : State.sameBut [.drive] s s.startBrakeCheck :=
  State.modDrive_sameBut s _

theorem State.enterBraked_sameBut (s : State) : State.sameBut [.drive] s s.enterBraked :=
  State.sameBut_trans (State.modDrive_sameBut s _) (State.startBrakeCheck_sameBut _)

theorem State.enterMoving_sameBut (s : State) : State.sameBut [.drive] s s.enterMoving := State.modDrive_sameBut s _

/-- BRAKED as it is entered (R54, R56, R62). -/
theorem State.enterBraked_drive (s : State) :
    s.enterBraked.drive =
      { s.drive with
        state := .braked, demand := .stop, confirm := 0, releaseTimer := none, stopTimer := none
        faultClearTimer := none, brakeCheckTimer := if s.brakeReleased then some brakeCheckTime else none } := rfl

/-- Entry to STOPPING, from which a rim at rest passes on (R58, R59). -/
theorem State.enterStopping_sameBut (s : State) : State.sameBut [.drive] s s.enterStopping := by
  unfold State.enterStopping
  dsimp only
  split
  · exact State.sameBut_trans (State.modDrive_sameBut s _) (State.enterBraked_sameBut _)
  · exact State.modDrive_sameBut s _

/-- The release confirmed (R56). -/
theorem State.release_sameBut (s : State) : State.sameBut [.drive] s s.release := by
  unfold State.release
  dsimp only
  split
  · exact State.sameBut_trans (State.modDrive_sameBut s _) (State.enterMoving_sameBut _)
  · exact State.modDrive_sameBut s _

theorem State.confirmRelease_sameBut (s : State) (go : Bool) : State.sameBut [.drive] s (s.confirmRelease go) := by
  unfold State.confirmRelease
  exact State.sameBut_ite (State.sameBut_trans (State.modDrive_sameBut s _) (State.release_sameBut _))
    (State.modDrive_sameBut s _)

/-- The drive's work at a mark touches the drive only (R55 to R59). -/
theorem State.driveMark_sameBut (s : State) : State.sameBut [.drive] s s.driveMark := by
  unfold State.driveMark
  dsimp only
  split
  · exact State.sameBut_trans (State.modDrive_sameBut s _) (State.confirmRelease_sameBut _ _)
  · split
    · exact State.sameBut_trans (State.modDrive_sameBut s _) (State.enterBraked_sameBut _)
    · exact State.modDrive_sameBut s _
  · split
    · exact State.sameBut_trans (State.modDrive_sameBut s _) (State.enterStopping_sameBut _)
    · exact State.sameBut_trans (State.modDrive_sameBut s _) (State.modDrive_sameBut _ _)
  · exact State.modDrive_sameBut s _
  · exact State.modDrive_sameBut s _

/-- A round loss touches the drive only (R60). -/
theorem State.driveLoss_sameBut (s : State) : State.sameBut [.drive] s s.driveLoss := by
  unfold State.driveLoss
  split
  · exact State.modDrive_sameBut s _
  · exact State.enterBraked_sameBut s
  · exact State.enterStopping_sameBut s
  · exact State.sameBut_refl _ s
  · exact State.sameBut_refl _ s

/-- A fault cause touches the drive, and the queue by its notice (R61, R62). -/
theorem State.driveFails_sameBut (s : State) (r : Reason) : State.sameBut (.drive :: queueParts) s (s.driveFails r) := by
  have said (t : State) (at_ : DriveState) : State.sameBut (.drive :: queueParts) t (t.driveFaultNotice r at_) :=
    State.sameBut_weaken (State.notice_sameBut t _ _ _ _)
  unfold State.driveFails
  simp only
  split
  · split
    · exact State.sameBut_refl _ s
    · exact State.sameBut_then (State.modDrive_sameBut s _) (said _ _)
  · exact State.sameBut_then
      (State.sameBut_trans (State.modDrive_sameBut s _)
        (State.sameBut_trans (State.startBrakeCheck_sameBut _) (State.watchFaultClear_sameBut _)))
      (said _ _)

end Sys2Proof.Machine
end

