-- ==== Sys2Proof/Laws/Platform.lean ====
section
/-! SUPPORT. What the operations of the Platform Sequencer and of the Ask Table do (chapters 6 and 9). -/

namespace Sys2Proof.Machine

set_option Elab.async false

/-! ### The zone -/

/-- The platform's zone and faults, and the queue by a notice. -/
abbrev zoneParts : List Part := .platform :: queueParts

/-- A zone entry changes alone (R104). -/
theorem State.modZone_sameBut (s : State) (place : Nat) (f : ZoneEntry → ZoneEntry) :
    State.sameBut [.platform] s (s.modZone place f) := by
  unfold State.modZone
  apply State.modPlatform_platform_sameBut
  split <;> exact ⟨rfl, rfl⟩

/-- The zone after one of its entries has changed. -/
theorem State.modZone_zone (s : State) (place : Nat) (f : ZoneEntry → ZoneEntry) :
    (s.modZone place f).platform.zone = s.platform.zone.modify place f := by
  rw [← match_set_eq_modify]
  unfold State.modZone
  simp only [State.modPlatform_platform]
  cases s.platform.zone[place]? <;> rfl

/-- A zone fault touches the platform, and the queue by its notice (R122). -/
theorem State.raiseZoneFault_sameBut (s : State) (kind : ZoneFaultKind) (cabin : Option Nat) (v2 : Nat) :
    State.sameBut zoneParts s (s.raiseZoneFault kind cabin v2) := by
  refine State.sameBut_then (State.modPlatform_platform_sameBut s _ ?_)
    (State.sameBut_weaken (State.notice_sameBut _ _ _ _ _))
  cases kind <;> exact ⟨rfl, rfl⟩

/-- The ask marks touch the platform only (R118). -/
theorem State.noteAsk_sameBut (s : State) (kind : AskKind) (target : Nat) :
    State.sameBut [.platform] s (s.noteAsk kind target) :=
  State.sameBut_ite (State.modPlatform_platform_sameBut s _) (State.sameBut_refl _ s)

/-- The end of a fallback ask (R121). -/
theorem State.fallbackEnded_sameBut (s : State) (n : Nat) (accepted : Bool) :
    State.sameBut zoneParts s (s.fallbackEnded n accepted) := by
  unfold State.fallbackEnded
  split
  · exact State.sameBut_refl _ s
  · split
    · exact State.sameBut_refl _ s
    · exact State.sameBut_ite (State.sameBut_weaken (State.modZone_sameBut s _ _))
        (State.sameBut_then (State.modZone_sameBut s _ _) (State.raiseZoneFault_sameBut _ _ _ _))

theorem State.clearZone_sameBut (s : State) : State.sameBut [.platform] s s.clearZone :=
  State.modPlatform_platform_sameBut s _

theorem State.workBoarding_sameBut (s : State) : State.sameBut [.platform] s s.workBoarding :=
  State.modPlatform_platform_sameBut s _

theorem State.setBoarding_sameBut (s : State) (on : Bool) : State.sameBut [.platform] s (s.setBoarding on) :=
  State.sameBut_ite (State.sameBut_refl _ s)
    (State.sameBut_trans (State.modPlatform_platform_sameBut s _) (State.workBoarding_sameBut _))

theorem State.watchMark_sameBut (s : State) : State.sameBut [.platform] s s.watchMark :=
  State.modPlatform_platform_sameBut s _

/-! ### The Ask Table -/

/-- The Ask Table, and what the end of a fallback ask may change. -/
abbrev askParts : List Part := .asks :: zoneParts

theorem State.modAsk_sameBut (s : State) (n : Nat) (f : AskEntry → AskEntry) : State.sameBut [.asks] s (s.modAsk n f) :=
  State.modAsks_sameBut s _

/-- The Ask Table's entries after one has changed. -/
theorem State.modAsk_entries (s : State) (n : Nat) (f : AskEntry → AskEntry) :
    (s.modAsk n f).asks.entries = s.asks.entries.modify n f := by
  rw [← match_set_eq_modify]
  unfold State.modAsk
  simp only [State.modAsks_asks]
  cases s.asks.entries[n]? <;> rfl

/-- The end of an ask, reported to its origin (R161). -/
theorem State.askEnded_sameBut (s : State) (n : Nat) (accepted : Bool) :
    State.sameBut zoneParts s (s.askEnded n accepted) := by
  unfold State.askEnded
  split
  · exact State.sameBut_refl _ s
  · split
    · exact State.fallbackEnded_sameBut s n accepted
    · exact State.sameBut_refl _ s
    · exact State.sameBut_refl _ s

theorem State.askFailed_sameBut (s : State) (n : Nat) : State.sameBut askParts s (s.askFailed n) :=
  State.sameBut_then (State.modAsk_sameBut s n _) (State.sameBut_weaken (State.askEnded_sameBut _ _ _))

/-- An ASK discarded (R158). -/
theorem State.askDiscarded_sameBut (s : State) (body : List Byte) : State.sameBut askParts s (s.askDiscarded body) := by
  unfold State.askDiscarded
  split
  · exact State.sameBut_refl _ s
  · exact State.askFailed_sameBut s _

/-- An ASK sent (R158). -/
theorem State.askSent_sameBut (s : State) (body : List Byte) : State.sameBut [.asks] s (s.askSent body) := by
  unfold State.askSent
  split
  · exact State.sameBut_refl _ s
  · exact State.modAsk_sameBut s _ _

/-- An ASK frame offered (R157, R158). -/
theorem State.offerAskFrame_sameBut (s : State) (n tag : Nat) (kind : AskKind) (target : Nat) (argument : Word) :
    State.sameBut askParts s (s.offerAskFrame n tag kind target argument) := by
  have h := State.offer_sameBut s .ask (askBody target kind tag argument) none
  unfold State.offerAskFrame
  split <;> rename_i heq <;> rw [heq] at h
  · exact State.sameBut_weaken h
  · exact State.sameBut_then h (State.askFailed_sameBut _ n)

/-- An ask offered to the table (R157): refused, it changes nothing. -/
theorem State.offerAsk_sameBut (s : State) (origin : AskOrigin) (kind : AskKind) (target : Nat) (argument : Word)
    (before : Nat → State → State) (h : ∀ n t, State.sameBut askParts t (before n t)) :
    State.sameBut askParts s (s.offerAsk origin kind target argument before).2 := by
  unfold State.offerAsk
  split
  · exact State.sameBut_refl _ s
  · exact State.sameBut_refl _ s
  · exact State.sameBut_then (State.modAsk_sameBut s _ _)
      (State.sameBut_then (State.modAsks_sameBut _ _)
        (State.sameBut_then (State.noteAsk_sameBut _ _ _)
          (State.sameBut_trans (h _ _) (State.offerAskFrame_sameBut _ _ _ _ _ _))))

/-- An ask expires (R160). -/
theorem State.expireAsk_sameBut (s : State) (n : Nat) : State.sameBut (.asks :: zoneParts) s (s.expireAsk n) :=
  State.sameBut_then (State.modAsk_sameBut s n _)
    (State.sameBut_then (State.bump_sameBut _ _) (State.sameBut_weaken (State.askEnded_sameBut _ _ _)))

theorem State.expireIfDue_sameBut (s : State) (n : Nat) : State.sameBut askParts s (s.expireIfDue n) :=
  State.sameBut_ite (State.expireAsk_sameBut s n) (State.sameBut_refl _ s)

/-- The Ask Table at a mark (R160, R162). -/
theorem State.askMark_sameBut (s : State) : State.sameBut askParts s s.askMark :=
  State.sameBut_then (State.modAsks_sameBut s _)
    (State.sameBut_trans (State.expireIfDue_sameBut _ 0)
      (State.sameBut_trans (State.expireIfDue_sameBut _ 1)
        (State.sameBut_trans (State.expireIfDue_sameBut _ 2) (State.expireIfDue_sameBut _ 3))))

/-- A REPLY delivered (R159). -/
theorem State.takeReply_sameBut (s : State) (sender : Nat) (body : List Byte) :
    State.sameBut askParts s (s.takeReply sender body) := by
  unfold State.takeReply
  refine State.sameBut_ite (State.sameBut_refl _ s) ?_
  split
  · exact State.sameBut_weaken (State.modAsks_sameBut s _)
  · exact State.sameBut_then (State.modAsk_sameBut s _ _) (State.sameBut_weaken (State.askEnded_sameBut _ _ _))

/-! ### Markers, beams, fallback asks, rebuild -/

theorem State.onMkArrive_sameBut (s : State) (index : BitVec 6) (valid : Bool) :
    State.sameBut zoneParts s (s.onMkArrive index valid) := by
  unfold State.onMkArrive
  split
  · exact State.raiseZoneFault_sameBut s _ _ _
  · exact State.sameBut_ite (State.raiseZoneFault_sameBut s _ _ _)
      (State.sameBut_then (State.modPlatform_platform_sameBut s _)
        (State.sameBut_weaken (State.notice_sameBut _ _ _ _ _)))

/-- An action at the oldest entry of a segment (R108, R109). -/
theorem State.atSegment_sameBut (s : State) (seg : Segment) (m : Marker) (f : Nat → ZoneEntry → State)
    (h : ∀ place e, State.sameBut zoneParts s (f place e)) : State.sameBut zoneParts s (s.atSegment seg m f) := by
  unfold State.atSegment
  split
  · exact State.raiseZoneFault_sameBut s _ _ _
  · split
    · exact State.sameBut_refl _ s
    · exact h _ _

theorem State.onMkTurn_sameBut (s : State) : State.sameBut zoneParts s s.onMkTurn :=
  State.atSegment_sameBut s _ _ _ fun _ _ =>
    State.sameBut_then (State.modZone_sameBut s _ _) (State.sameBut_weaken (State.notice_sameBut _ _ _ _ _))

theorem State.onMkClose_sameBut (s : State) : State.sameBut zoneParts s s.onMkClose :=
  State.atSegment_sameBut s _ _ _ fun place e => by
    have closed (t : State) (h : State.sameBut zoneParts s t) (v : Nat) :
        State.sameBut zoneParts s (t.notice .close (some e.cabin) v 0) :=
      State.sameBut_trans h (State.sameBut_weaken (State.notice_sameBut _ _ _ _ _))
    have moved := State.sameBut_weaken (ps := zoneParts) (State.modZone_sameBut s place (ZoneEntry.moveTo .closing))
    exact State.sameBut_ite
      (State.sameBut_trans (closed _ moved _) (State.sameBut_weaken (State.notice_sameBut _ _ _ _ _)))
      (closed _ moved _)

theorem State.onMkDepart_sameBut (s : State) : State.sameBut zoneParts s s.onMkDepart := by
  unfold State.onMkDepart
  split
  · exact State.sameBut_ite
      (State.sameBut_then (State.modPlatform_platform_sameBut s _)
        (State.sameBut_weaken (State.notice_sameBut _ _ _ _ _)))
      (State.raiseZoneFault_sameBut s _ _ _)
  · exact State.raiseZoneFault_sameBut s _ _ _

theorem State.onBeam_sameBut (s : State) (b : Beam) : State.sameBut [.platform] s (s.onBeam b) := by
  unfold State.onBeam
  split
  · exact State.sameBut_refl _ s
  · exact State.modZone_sameBut s _ _

/-- A fallback ask (R120). -/
theorem State.offerFallback_sameBut (s : State) (place : Nat) (e : ZoneEntry) (kind : AskKind) :
    State.sameBut askParts s (s.offerFallback place e kind) := by
  have h := State.offerAsk_sameBut s .fallback kind e.owner 0 (State.setPending place kind)
    fun _ t => State.sameBut_weaken (State.modZone_sameBut t _ _)
  unfold State.offerFallback
  split <;> rename_i heq <;> rw [heq] at h
  · exact h
  · exact State.sameBut_trans h (State.sameBut_weaken (State.modZone_sameBut _ _ _))
  · exact State.sameBut_trans h (State.sameBut_weaken (State.modZone_sameBut _ _ _))

theorem State.chooseFallback_sameBut (s : State) (place : Nat) (e : ZoneEntry) :
    State.sameBut askParts s (s.chooseFallback place e) := by
  unfold State.chooseFallback
  split
  · exact State.sameBut_ite (State.sameBut_weaken (State.modZone_sameBut s _ _)) (State.sameBut_refl _ s)
  · split
    · exact State.offerFallback_sameBut s _ _ _
    · exact State.offerFallback_sameBut s _ _ _
    · exact State.sameBut_refl _ s
    · exact State.sameBut_weaken (State.raiseZoneFault_sameBut s _ _ _)

theorem State.fallbackAsk_sameBut (s : State) (place : Nat) : State.sameBut askParts s (s.fallbackAsk place) := by
  unfold State.fallbackAsk
  split
  · exact State.sameBut_refl _ s
  · exact State.sameBut_then (State.modZone_sameBut s _ _) (State.chooseFallback_sameBut _ _ _)

theorem State.checkPlace_sameBut (s : State) (place : Nat) : State.sameBut askParts s (s.checkPlace place) := by
  unfold State.checkPlace
  split
  · exact State.sameBut_refl _ s
  · exact State.sameBut_ite (State.sameBut_then (State.modZone_sameBut s _ _) (State.fallbackAsk_sameBut _ _))
      (State.sameBut_weaken (State.modZone_sameBut s _ _))

theorem State.clearPhaseFault_sameBut (s : State) (sound : Bool) :
    State.sameBut [.platform] s (s.clearPhaseFault sound) :=
  State.sameBut_ite (State.modPlatform_platform_sameBut s _) (State.sameBut_refl _ s)

/-- The zone checks at a mark (R119 to R122). -/
theorem State.zoneCheck_sameBut (s : State) : State.sameBut askParts s s.zoneCheck :=
  State.sameBut_trans (State.checkPlace_sameBut s 0)
    (State.sameBut_trans (State.checkPlace_sameBut _ 1)
      (State.sameBut_trans (State.checkPlace_sameBut _ 2) (State.sameBut_weaken (State.clearPhaseFault_sameBut _ _))))

/-- The rebuild (R125). -/
theorem State.rebuildZone_sameBut (s : State) : State.sameBut zoneParts s s.rebuildZone :=
  State.sameBut_ite (State.sameBut_weaken (State.modPlatform_platform_sameBut s _))
    (State.sameBut_then (State.modPlatform_platform_sameBut s _) (State.raiseZoneFault_sameBut _ _ _ _))

/-- The platform's work at a mark (R111, R117, R119, R125). -/
theorem State.platformMark_sameBut (s : State) : State.sameBut askParts s s.platformMark := by
  have worked : State.sameBut askParts s s.watchMark.workBoarding :=
    State.sameBut_then (State.watchMark_sameBut s) (State.sameBut_weaken (State.workBoarding_sameBut _))
  exact State.sameBut_ite
    (State.sameBut_ite
      (State.sameBut_trans worked (State.sameBut_then (State.rebuildZone_sameBut _)
        (State.sameBut_weaken (State.clearPhaseFault_sameBut _ _))))
      (State.sameBut_trans worked (State.zoneCheck_sameBut _)))
    worked

/-- A dwell key (R123). -/
theorem State.dwellKey_sameBut (s : State) (kind : AskKind) : State.sameBut askParts s (s.dwellKey kind) := by
  unfold State.dwellKey
  split
  · exact State.sameBut_weaken (State.setFlag_sameBut s _)
  · exact State.offerAsk_sameBut s _ _ _ _ _ fun _ t => State.sameBut_refl _ t

end Sys2Proof.Machine
end

