-- ==== Sys2Proof/Laws/Mark.lean ====
section
/-! SUPPORT. What the Round Controller's operations do (chapter 2). -/

namespace Sys2Proof.Machine

set_option Elab.async false

/-- What taking a mark may change. -/
abbrev markParts : List Part :=
  [.mode, .roster, .queue, .line, .round, .working, .agreement, .drive, .replica, .cabin, .platform, .gates, .asks,
    .capture, .flags, .counters, .attention, .renewal]

theorem State.enterSlot_sameBut (s : State) (sender : Nat) (h : HeardState) :
    State.sameBut [.round] s (s.enterSlot sender h) := State.modRound_round_sameBut s _

/-- A STATE that reaches the Round Controller (R35, R36). -/
theorem State.enterState_sameBut (s : State) (sender : Nat) (round : Byte) (h : HeardState) :
    State.sameBut [.round, .counters, .attention, .renewal] s (s.enterState sender round h) :=
  State.sameBut_ite (State.sameBut_refl _ s)
    (State.sameBut_ite (State.sameBut_weaken (State.enterSlot_sameBut s _ _))
      (State.sameBut_weaken (State.bump_sameBut s _)))

/-- The silence step (R40). -/
theorem State.silenceStep_sameBut (s : State) :
    State.sameBut [.roster, .flags, .attention, .renewal] s s.silenceStep :=
  State.sameBut_ite
    (State.sameBut_then (State.modRoster_sameBut s _) (State.sameBut_weaken (State.setFlag_sameBut _ _)))
    (State.sameBut_weaken (State.modRoster_sameBut s _))

theorem State.lastStep_sameBut (s : State) : State.sameBut [.roster] s s.lastStep := State.modRoster_sameBut s _

/-- The removals at a mark (R17). -/
theorem State.removeAtMark_sameBut (s : State) (heard : Bool) :
    State.sameBut [.queue, .counters, .attention, .renewal] s (s.removeAtMark heard) :=
  State.sameBut_ite
    (State.sameBut_then (State.modLine_queue_sameBut s _) (State.sameBut_weaken (State.bump_sameBut _ _)))
    (State.sameBut_weaken (State.modLine_queue_sameBut s _))

theorem State.joinWheel_sameBut (s : State) : State.sameBut [.mode, .line] s s.joinWheel :=
  State.sameBut_then (State.setMode_sameBut s _) (State.sameBut_weaken (State.modLine_line_sameBut _ _))

/-- The marks taken (R42). -/
theorem State.countMarkTaken_sameBut (s : State) : State.sameBut [.mode, .line, .round] s s.countMarkTaken :=
  State.sameBut_ite
    (State.sameBut_ite
      (State.sameBut_then (State.modRound_round_sameBut s _) (State.sameBut_weaken (State.joinWheel_sameBut _)))
      (State.sameBut_weaken (State.modRound_round_sameBut s _)))
    (State.sameBut_refl _ s)

/-- The own STATE offered (R38). -/
theorem State.offerState_sameBut (s : State) : State.sameBut queueParts s s.offerState := by
  unfold State.offerState
  split
  · exact State.sameBut_refl _ s
  · exact State.offer_sameBut s _ _ _

/-- The comparisons of a heard MARK (R32). -/
theorem State.compareMark_sameBut (s : State) (heard : Option (List Byte)) :
    State.sameBut [.replica, .flags, .attention, .renewal] s (s.compareMark heard) := by
  unfold State.compareMark
  split
  · exact State.sameBut_ite
      (State.sameBut_then (State.compareLevel_sameBut s _) (State.compareReplica_sameBut _ _ _))
      (State.sameBut_weaken (State.modReplica_sameBut s _))
  · exact State.sameBut_weaken (State.modReplica_sameBut s _)

/-- The round number and what a mark ends (R31). -/
theorem State.setRound_sameBut (s : State) (number : Byte) (heard : Bool) :
    State.sameBut [.round, .queue, .flags, .attention, .renewal] s (s.setRound number heard) := by
  have set (f : Round → Round) (h : (f s.round).working = s.round.working) :
      State.sameBut [.round, .queue, .flags, .attention, .renewal] s
        ((s.modRound f).modLine fun l => { l with markWaiting := false }) :=
    State.sameBut_then (State.modRound_round_sameBut s f h) (State.sameBut_weaken (State.modLine_queue_sameBut _ _))
  exact State.sameBut_ite (State.sameBut_trans (set _ rfl) (State.sameBut_weaken (State.setFlag_sameBut _ _))) (set _ rfl)

/-- Swap and roster (R34, R40, R41). -/
theorem State.swapRound_sameBut (s : State) (number : Byte) (first : Bool) :
    State.sameBut [.round, .roster, .flags, .attention, .renewal] s (s.swapRound number first) := by
  have swapped := State.modRound_round_sameBut s (Round.swap number)
  refine State.sameBut_trans ?_ (State.sameBut_weaken (State.lastStep_sameBut _))
  cases first
  · exact State.sameBut_then swapped (State.sameBut_weaken (State.silenceStep_sameBut _))
  · exact State.sameBut_weaken swapped

theorem State.agreementMark_sameBut (s : State) (closed : Byte) :
    State.sameBut [.agreement, .flags, .attention, .renewal] s (s.agreementMark closed) :=
  State.sameBut_ite (State.sameBut_then (State.computeAgreement_sameBut s _) (State.checkSkew_sameBut _))
    (State.sameBut_refl _ s)

/-- The role sequencer's work at a mark. -/
theorem State.roleMark_sameBut (s : State) : State.sameBut (.drive :: .cabin :: askParts) s s.roleMark := by
  unfold State.roleMark
  split
  · exact State.sameBut_weaken (State.driveMark_sameBut s)
  · exact State.sameBut_weaken (State.platformMark_sameBut s)
  · exact State.sameBut_weaken (State.cabinMark_sameBut s)
  all_goals exact State.sameBut_refl _ s

theorem State.refresh_sameBut (s : State) : State.sameBut followers s s.refresh :=
  State.sameBut_then (State.updateGates_sameBut s) (State.sameBut_weaken (State.writeWorking_sameBut _))

theorem State.publish_sameBut (s : State) : State.sameBut [.round] s s.publish := State.modRound_round_sameBut s _

theorem State.clearOld_sameBut (s : State) : State.sameBut [.flags] s (s.modStatus Status.clearOld) :=
  State.modStatus_sameBut_of s _ (by simp) (.inr rfl) (.inr ⟨rfl, rfl, rfl, rfl, rfl⟩)

/-- What taking a mark leaves alone (R33). -/
theorem State.takeMark_sameBut (s : State) (number : Byte) (heard : Option (List Byte)) :
    State.sameBut markParts s (s.takeMark number heard) := by
  have tail (t : State) : State.sameBut markParts t
      (let u := (t.ageReplica.decideCongested).countAttentionMark.refresh.publish
       if u.mode = .joined then u.offerState else u) := by
    have published : State.sameBut markParts t (t.ageReplica.decideCongested).countAttentionMark.refresh.publish :=
      State.sameBut_then (State.ageReplica_sameBut t)
        (State.sameBut_then (State.decideCongested_sameBut _)
          (State.sameBut_then (State.countAttentionMark_sameBut _)
            (State.sameBut_then (State.refresh_sameBut _) (State.sameBut_weaken (State.publish_sameBut _)))))
    exact State.sameBut_ite (State.sameBut_trans published (State.sameBut_weaken (State.offerState_sameBut _))) published
  have head : State.sameBut markParts s
      (((((s.modStatus Status.clearOld).compareMark heard).setRound number heard.isSome).countMarkTaken.swapRound number
        s.round.firstMark).removeAtMark heard.isSome) :=
    State.sameBut_then (State.clearOld_sameBut s)
      (State.sameBut_then (State.compareMark_sameBut _ _)
        (State.sameBut_then (State.setRound_sameBut _ _ _)
          (State.sameBut_then (State.countMarkTaken_sameBut _)
            (State.sameBut_then (State.swapRound_sameBut _ _ _) (State.sameBut_weaken (State.removeAtMark_sameBut _ _))))))
  have body (t : State) : State.sameBut markParts t
      (((((t.modLine fun l => { l with peersCongested := t.peersCongest }).agreementMark s.round.current.round).askMark).roleMark)) :=
    State.sameBut_then (State.modLine_line_sameBut t (fun l => { l with peersCongested := t.peersCongest }) ⟨rfl, rfl, rfl⟩)
      (State.sameBut_then (State.agreementMark_sameBut _ _)
        (State.sameBut_then (State.askMark_sameBut _) (State.sameBut_weaken (State.roleMark_sameBut _))))
  exact State.sameBut_trans head (State.sameBut_trans (body _) (tail _))

/-- A MARK judged (R30). -/
theorem State.judgeMark_sameBut (s : State) (sender : Nat) (number : Byte) (body : List Byte) :
    State.sameBut markParts s (s.judgeMark sender number body) :=
  State.sameBut_ite (State.sameBut_weaken (State.setFlag_sameBut s _))
    (State.sameBut_ite
      (State.sameBut_then (State.bump_sameBut s _) (State.sameBut_weaken (State.setFlag_sameBut _ _)))
      (State.takeMark_sameBut s _ _))

/-- The STATE dropped at a round loss (R44). -/
theorem State.dropState_sameBut (s : State) : State.sameBut queueParts s s.dropState :=
  State.sameBut_ite
    (State.sameBut_then (State.modLine_queue_sameBut s _)
      (State.sameBut_then (State.bump_sameBut _ _) (State.entryLeft_sameBut _)))
    (State.sameBut_weaken (State.modLine_queue_sameBut s _))

/-- A round lost (R44, R60). -/
theorem State.loseRound_sameBut (s : State) : State.sameBut (.round :: .drive :: queueParts) s s.loseRound := by
  have lost (f : Round → Round) (h : (f s.round).working = s.round.working) :
      State.sameBut (.round :: .drive :: queueParts) s ((s.modRound f).setFlag .roundLoss).dropState :=
    State.sameBut_then (State.modRound_round_sameBut s f h)
      (State.sameBut_then (State.setFlag_sameBut _ _) (State.sameBut_weaken (State.dropState_sameBut _)))
  exact State.sameBut_ite (State.sameBut_trans (lost _ rfl) (State.sameBut_weaken (State.driveLoss_sameBut _)))
    (lost _ rfl)

end Sys2Proof.Machine
end

