-- ==== Sys2Proof/Laws/Line.lean ====
section
/-! SUPPORT. What the Line Controller's operations do (chapter 1). -/

namespace Sys2Proof.Machine

set_option Elab.async false

/-! ### The pseudo-random sequence (R19) -/

/-- A step of the sequence moves every bit one place down. -/
theorem prngStep_bit (w : Word) (i : Nat) (h : i < 15) : (prngStep w).getLsbD i = w.getLsbD (i + 1) := by
  unfold prngStep
  simp only [BitVec.getLsbD_or, BitVec.getLsbD_ushiftRight, BitVec.getLsbD_shiftLeft]
  simp [Nat.add_comm 1 i, show i < 15 from h]

/-- The bit that comes in at the top. -/
theorem prngStep_top (w : Word) :
    (prngStep w).getLsbD 15 = (w.getLsbD 0 ^^ w.getLsbD 2 ^^ w.getLsbD 3 ^^ w.getLsbD 5) := by
  unfold prngStep
  simp only [BitVec.getLsbD_or, BitVec.getLsbD_ushiftRight, BitVec.getLsbD_shiftLeft]
  simp

/-! ### Leaving JOINED -/

/-- The parts that emptying the queue may change. -/
abbrev leaveParts : List Part := askParts

theorem State.dropFrame_sameBut (s : State) (e : TxEntry) : State.sameBut leaveParts s (s.dropFrame e) :=
  State.sameBut_ite (State.sameBut_then (State.bump_sameBut s _) (State.askDiscarded_sameBut _ _))
    (State.sameBut_weaken (State.bump_sameBut s _))

/-- The queue emptied (R15). -/
theorem State.emptyQueue_sameBut (s : State) : State.sameBut leaveParts s s.emptyQueue := by
  have drops (entries : List TxEntry) (t : State) : State.sameBut leaveParts t (entries.foldl State.dropFrame t) := by
    induction entries generalizing t with
    | nil => exact State.sameBut_refl _ t
    | cons e rest ih => exact State.sameBut_trans (State.dropFrame_sameBut t e) (ih _)
  exact State.sameBut_then (State.modLine_queue_sameBut s _) (drops _ _)

/-- What leaving JOINED may change (R15, R44, R51, R60). -/
theorem State.leaveJoined_sameBut (s : State) (m : Mode) :
    State.sameBut (.mode :: .agreement :: .round :: .drive :: leaveParts) s (s.leaveJoined m) := by
  have left : State.sameBut (.mode :: .agreement :: .round :: .drive :: leaveParts) s
      ((((s.setMode m).emptyQueue).resetAgreement).modRound fun r => { r with roundLost := false }) :=
    State.sameBut_then (State.setMode_sameBut s m)
      (State.sameBut_then (State.emptyQueue_sameBut _)
        (State.sameBut_then (State.resetAgreement_sameBut _)
          (State.sameBut_weaken (State.modRound_round_sameBut _ _))))
  exact State.sameBut_ite (State.sameBut_trans left (State.sameBut_weaken (State.driveLoss_sameBut _))) left

/-- ISOLATED entered (R23). -/
theorem State.enterIsolated_sameBut (s : State) :
    State.sameBut (.line :: .mode :: .agreement :: .round :: .drive :: leaveParts) s s.enterIsolated :=
  State.sameBut_then (State.leaveJoined_sameBut s _) (State.sameBut_weaken (State.modLine_line_sameBut _ _))

/-- What giving up a frame may change. -/
abbrev giveUpParts : List Part := .line :: .mode :: .agreement :: .round :: .drive :: leaveParts

theorem State.isolateIfDue_sameBut (s : State) : State.sameBut giveUpParts s s.isolateIfDue :=
  State.sameBut_ite (State.enterIsolated_sameBut s) (State.sameBut_refl _ s)

/-! ### The end of an attempt -/

/-- A queue entry changes alone. -/
theorem State.modQueued_sameBut (s : State) (place : Nat) (f : TxEntry → TxEntry) :
    State.sameBut [.queue] s (s.modQueued place f) := by
  unfold State.modQueued
  apply State.modLine_queue_sameBut
  split <;> rfl

/-- The queue after one of its entries has changed. -/
theorem State.modQueued_queue (s : State) (place : Nat) (f : TxEntry → TxEntry) :
    (s.modQueued place f).line.queue = s.line.queue.modify place f := by
  rw [← match_set_eq_modify]
  unfold State.modQueued
  simp only [State.modLine_line]
  cases s.line.queue[place]? <;> rfl

theorem State.startAttempt_sameBut (s : State) : State.sameBut [.queue] s s.startAttempt := by
  unfold State.startAttempt
  split
  · exact State.sameBut_refl _ s
  · exact State.modQueued_sameBut s _ _

theorem State.stopDriving_sameBut (s : State) : State.sameBut [.idle] s s.stopDriving := by
  intro p hp; cases p <;> simp [State.same, State.stopDriving] at hp ⊢

theorem State.removeQueued_sameBut (s : State) (place : Nat) : State.sameBut [.queue] s (s.removeQueued place) :=
  State.modLine_queue_sameBut s _

/-- A back-off drawn (R19). -/
theorem State.drawBackoff_sameBut (s : State) (place n : Nat) :
    State.sameBut [.queue, .line] s (s.drawBackoff place n) :=
  State.sameBut_then (State.modLine_line_sameBut s _) (State.sameBut_weaken (State.modQueued_sameBut _ _ _))

/-- A frame given up (R20, R21). -/
theorem State.discardEntry_sameBut (s : State) (place : Nat) (e : TxEntry) :
    State.sameBut giveUpParts s (s.discardEntry place e) := by
  have removed (f : Line → Line)
      (h : (f (s.removeQueued place).line).queue = (s.removeQueued place).line.queue ∧
        (f (s.removeQueued place).line).markWaiting = (s.removeQueued place).line.markWaiting ∧
        (f (s.removeQueued place).line).idle = (s.removeQueued place).line.idle) :
      State.sameBut giveUpParts s ((s.removeQueued place).modLine f) :=
    State.sameBut_then (State.removeQueued_sameBut s place) (State.sameBut_weaken (State.modLine_line_sameBut _ f h))
  have told (t : State) (h : State.sameBut giveUpParts s t) :
      State.sameBut giveUpParts s (if e.cls = .ask then t.askDiscarded e.body else t) :=
    State.sameBut_ite (State.sameBut_trans h (State.sameBut_weaken (State.askDiscarded_sameBut _ _))) h
  unfold State.discardEntry
  have gone := removed (fun l => { l with isoScore := l.isoScore + 1 }) ⟨rfl, rfl, rfl⟩
  have isolated := State.sameBut_trans gone (State.isolateIfDue_sameBut _)
  exact State.sameBut_ite
    (State.sameBut_ite (State.sameBut_trans isolated (State.sameBut_weaken (State.offerMark_sameBut _))) isolated)
    (State.sameBut_trans
      (told _ (State.sameBut_trans gone (State.sameBut_weaken (State.entryLeft_sameBut _))))
      (State.isolateIfDue_sameBut _))

theorem State.discardExcess_sameBut (s : State) (place : Nat) (e : TxEntry) :
    State.sameBut giveUpParts s (s.discardExcess place e) :=
  State.sameBut_then (State.bump_sameBut s _)
    (State.sameBut_then (State.setFlag_sameBut _ _) (State.discardEntry_sameBut _ _ _))

theorem State.applyRemoval_sameBut (s : State) (place : Nat) : State.sameBut queueParts s (s.applyRemoval place) :=
  State.sameBut_then (State.removeQueued_sameBut s place)
    (State.sameBut_then (State.bump_sameBut _ _) (State.entryLeft_sameBut _))

/-- A collision (R13, R19, R20). -/
theorem State.collide_sameBut (s : State) (place : Nat) (e : TxEntry) (a : Attempt) :
    State.sameBut (.idle :: giveUpParts) s (s.collide place e a) := by
  have counted : State.sameBut (.idle :: giveUpParts) s ((s.stopDriving).bump .collisions) :=
    State.sameBut_then (State.stopDriving_sameBut s) (State.sameBut_weaken (State.bump_sameBut _ _))
  unfold State.collide
  refine State.sameBut_trans counted ?_
  split
  · exact State.sameBut_weaken (State.modQueued_sameBut _ _ _)
  · exact State.sameBut_weaken (State.applyRemoval_sameBut _ _)
  · exact State.sameBut_ite (State.sameBut_weaken (State.discardExcess_sameBut _ _ _))
      (State.sameBut_weaken (State.drawBackoff_sameBut _ _ _))

/-- A late collision (R13, R21). -/
theorem State.collideLate_sameBut (s : State) (place : Nat) (e : TxEntry) (a : Attempt) :
    State.sameBut (.idle :: giveUpParts) s (s.collideLate place e a) := by
  have counted : State.sameBut (.idle :: giveUpParts) s (((s.stopDriving).bump .lateColl).setFlag .lateCollision) :=
    State.sameBut_then (State.stopDriving_sameBut s)
      (State.sameBut_then (State.bump_sameBut _ _) (State.sameBut_weaken (State.setFlag_sameBut _ _)))
  have raised (t : State) : State.sameBut (.idle :: giveUpParts) t (t.raiseScore).isolateIfDue :=
    State.sameBut_then (State.modLine_line_sameBut t _) (State.sameBut_weaken (State.isolateIfDue_sameBut _))
  unfold State.collideLate
  refine State.sameBut_trans counted ?_
  split
  · exact State.sameBut_then (State.modQueued_sameBut _ _ _) (raised _)
  · exact State.sameBut_then (State.applyRemoval_sameBut _ _) (raised _)
  · exact State.sameBut_weaken (State.discardEntry_sameBut _ _ _)

/-! ### Success (R22) -/

theorem State.ownStateSent_sameBut (s : State) :
    State.sameBut (.round :: .replica :: statusParts) s s.ownStateSent := by
  unfold State.ownStateSent
  split
  · exact State.sameBut_refl _ s
  · exact State.sameBut_ite
      (State.sameBut_then (State.enterState_sameBut s _ _ _) (State.sameBut_weaken (State.takeCabinState_sameBut _ _ _ _)))
      (State.sameBut_weaken (State.enterState_sameBut s _ _ _))

theorem State.reportSent_sameBut (s : State) (e : TxEntry) : State.sameBut markParts s (s.reportSent e) := by
  unfold State.reportSent
  split
  · exact State.takeMark_sameBut s _ _
  · exact State.sameBut_weaken (State.ownStateSent_sameBut s)
  · exact State.sameBut_weaken (State.askSent_sameBut s _)
  all_goals exact State.sameBut_refl _ s

/-- A frame sent (R22). -/
theorem State.succeed_sameBut (s : State) (place : Nat) (e : TxEntry) (a : Attempt) :
    State.sameBut (.idle :: markParts) s (s.succeed place e a) :=
  State.sameBut_then (State.stopDriving_sameBut s)
    (State.sameBut_then (State.removeQueued_sameBut _ _)
      (State.sameBut_then (State.modLine_line_sameBut _ _)
        (State.sameBut_then (State.offerCapture_sameBut _ _ _ _ _ _)
          (State.sameBut_then (State.reportSent_sameBut _ _) (State.sameBut_weaken (State.entryLeft_sameBut _))))))

/-- The end of an isolation (R24). -/
theorem State.endIsolation_sameBut (s : State) : State.sameBut [.mode, .line, .round, .conv] s s.endIsolation :=
  State.sameBut_then (State.setMode_sameBut s _)
    (State.sameBut_then (State.modLine_line_sameBut _ _)
      (State.sameBut_then (State.modRound_round_sameBut _ _) (State.sameBut_weaken (State.restartConverter_sameBut _))))

/-- The isolation counts (R24). -/
theorem State.countIsolation_sameBut (s : State) : State.sameBut [.mode, .line, .round, .conv] s s.countIsolation :=
  State.sameBut_ite
    (State.sameBut_then (State.modLine_line_sameBut s _) (State.endIsolation_sameBut _))
    (State.sameBut_weaken (State.modLine_line_sameBut s _))

/-! ### The levels on the line and their read-back (R3) -/

/-- A frame has ten bit times for each byte. -/
@[simp] theorem lineBits_length (bytes : List Byte) : (lineBits bytes).length = 10 * bytes.length := by
  induction bytes with
  | nil => rfl
  | cons b rest ih =>
    have step : (lineBits (b :: rest)).length = 10 + (lineBits rest).length := by
      simp [lineBits, byteBits, dataBits]; omega
    rw [step, ih, List.length_cons]
    omega

/-- What the first mismatch is: within what was sent, read back otherwise than sent, and no bit before it is. -/
theorem firstMismatch_eq_some (sent readBack : List LineBit) (k : Nat) :
    firstMismatch sent readBack = some k ↔
      k < sent.length ∧ (∀ j : Nat, j < k → readBack[j]? = sent[j]?) ∧ readBack[k]? ≠ none ∧ readBack[k]? ≠ sent[k]? := by
  induction sent generalizing readBack k with
  | nil => simp [firstMismatch]
  | cons x xs ih =>
    cases readBack with
    | nil => simp [firstMismatch]
    | cons y ys =>
      unfold firstMismatch
      split
      · rename_i same
        cases k with
        | zero => simp [same]
        | succ k =>
          rw [Option.map_eq_some_iff]
          constructor
          · rintro ⟨n, found, next⟩
            obtain rfl : n = k := by omega
            obtain ⟨inside, before, there, differs⟩ := (ih ys n).mp found
            refine ⟨by simpa using inside, fun j hj => ?_, by simpa using there, by simpa using differs⟩
            cases j with
            | zero => simp [same]
            | succ j => simpa using before j (by omega)
          · rintro ⟨inside, before, there, differs⟩
            refine ⟨k, (ih ys k).mpr ⟨by simpa using inside, fun j hj => ?_, by simpa using there, by simpa using differs⟩,
              rfl⟩
            simpa using before (j + 1) (by omega)
      · rename_i other
        cases k with
        | zero => simp [other]
        | succ k =>
          constructor
          · intro h; cases h
          · rintro ⟨-, before, -⟩
            exact absurd (by simpa using before 0 (by omega)) other

/-- Bits read back as sent have no mismatch. -/
@[simp] theorem firstMismatch_self (sent : List LineBit) : firstMismatch sent sent = none := by
  induction sent with
  | nil => rfl
  | cons x xs ih => simp [firstMismatch, ih]

/-- A station that drives the line alone reads back what it sends, and a released line reads 1 (R3). -/
@[simp] theorem State.readBack_alone (s : State) : s.readBack [] = s.driven.getD .one := by
  unfold State.readBack
  cases s.driven <;> simp [lineReading]

/-- A station that sends nothing leaves the line released. -/
theorem State.driven_released {s : State} (h : s.sendingEntry = none) : s.driven = none := by simp [State.driven, h]

/-! ### Acting on the entry being sent -/

/-- Acting on the entry being sent: the old state, or the effect at the time of the bit. -/
theorem onAttempt_cases (ends : Attempt → Option Nat) (effect : Nat → TxEntry → Attempt → State → State) (s : State) :
    onAttempt ends effect s = .next s ∨
      ∃ place e a n, s.sendingEntry = some (place, e, a) ∧ ends a = some n ∧
        onAttempt ends effect s = .next (effect place e a (s.elapse (n - a.elapsed))).settle := by
  unfold onAttempt
  split
  · exact .inl rfl
  · rename_i place e a h
    split
    · exact .inl rfl
    · rename_i n hn
      split
      · exact .inr ⟨place, e, a, n, h, hn, rfl⟩
      · exact .inl rfl

theorem onAttempt_of (ends : Attempt → Option Nat) (effect : Nat → TxEntry → Attempt → State → State) {s : State}
    {place n : Nat} {e : TxEntry} {a : Attempt} (held : s.resetHeld = false) (h : s.sendingEntry = some (place, e, a))
    (r : ends a = some n) :
    onAttempt ends effect s = .next (effect place e a (s.elapse (n - a.elapsed))).settle := by
  simp [onAttempt, h, held, r]

/-- A mismatch within the first three bytes is a collision (R19). -/
theorem Attempt.collidesAt_of {a : Attempt} {readBack : List LineBit} {k : Nat} (h : a.mismatch readBack = some k)
    (early : k < 30) : a.collidesAt readBack = some (k + 1) := by simp [Attempt.collidesAt, openingBits, h, early]

/-- A mismatch past them is a late collision (R21). -/
theorem Attempt.collidesLateAt_of {a : Attempt} {readBack : List LineBit} {k : Nat} (h : a.mismatch readBack = some k)
    (late : 30 ≤ k) : a.collidesLateAt readBack = some (k + 1) := by simp [Attempt.collidesLateAt, openingBits, h, late]

/-- A frame read back as sent is a success at its last bit (R22). -/
@[simp] theorem Attempt.succeedsAt_levels (a : Attempt) : Attempt.succeedsAt a.levels a = some a.bits := if_pos rfl

end Sys2Proof.Machine
end

