-- ==== Sys2Proof/WellFormed.lean ====
section
/-! DEFINITION. Which operands the outside world can bring to a command. -/

namespace Sys2Proof

/-- A received sequence begins with a start bit of 0, so it is not empty and its first bit time does not read 1 (1.2). -/
def wfReception (bits : List LineBit) : Bool :=
  match bits with
  | [] => false
  | b :: _ => b != .one

/-- The commands an environment can send: a read try brings 256 bytes (R176), a collision is read back within the thirty
bit times of the first three bytes (R19), a late collision after them (R21) and within the longest frame that the header
can declare, and a whole frame is 7 to 39 bytes (R4), a sequence begins with a start bit (1.2), and an unknown
transaction code is none of the seven codes of R201. -/
def Instr.wf : Instr → Bool
  | .configReadTryEnd transfer => transfer.bytes.length == 256
  | .frameReception bits => wfReception bits
  | .collision readBack => 1 ≤ readBack.length && readBack.length ≤ 30
  | .lateCollision readBack => 31 ≤ readBack.length && readBack.length ≤ 390
  | .transmissionSuccess readBack => 70 ≤ readBack.length && readBack.length ≤ 390 && readBack.length % 10 == 0
  | .unknownTransactionCode code => code.toNat == 0 || 7 < code.toNat
  | .startReset | .resetRelease _ _
  | .configRetryWaitExpiry _ | .stationSilentEntry _ | .join | .releaseConfirmed | .askExpiry _ | .fallbackAsk _
  | .departureUnready _ | .departMarkCountEnd | .isolationEnd | .transmitAttemptStart
  | .excessAttemptsDiscard | .backoffExpiry _ | .stateStaggerExpiry | .isolationEntry
  | .isolationPeriodExpiry | .earlyMarkWindowEnd | .markOfferTime | .roundLoss | .founding | .driveFaultActive
  | .driveFaultInactive | .brakeReleasedActive | .brakeReleasedInactive | .stationaryActive
  | .stationaryInactive | .releaseTimerExpiry | .stopTimerExpiry | .brakeCheckTimerExpiry
  | .faultClearTimerExpiry | .openEndActive _ | .closedEndActive | .closedEndInactive | .latchedActive
  | .latchedInactive | .obstructionActive _ | .openLimitExpiry | .closeLimitExpiry | .latchLimitExpiry
  | .recloseDelayExpiry | .weighingLimitExpiry | .dwellTimerExpiry | .callKeyActive | .mkArrive _ _ | .mkTurn
  | .mkClose | .mkDepart | .beamCrossing _ | .gatePositionChange _ _ | .gateTravelExpiry _ | .keyBoardOpen
  | .keyBoardShut | .keyStop | .keyResume | .keyDwell | .keyDwellEnd | .keyZoneClear | .consoleKeyStop
  | .consoleKeyResume | .keyEvac | .keyEvacEnd | .windTick | .sensorFaultClear | .sliceCompletion
  | .watchCalmComplete | .releaseCountComplete | .clearWaitPassed | .zeroingEnd | .integratingEnd _
  | .zeroCrossingLatch | .overrangeLatch | .readRecord _ _ | .readClear _ | .release _ | .ask _ _ _ | .key _
  | .setMask _ | .setSelector _ _ _ _ | .answerComplete | .selectionEnd | .captureCountReached
  | .attentionTimerExpiry | .counterHalfScale _ => true

end Sys2Proof
end

