-- ==== Sys2Proof/Laws/PerInstr.lean ====
section
/-! SUPPORT. The family `Operands`: no word spells a command, and the operands each command admits. -/

namespace Sys2Proof.Laws.Operands

set_option Elab.async false

/-- No word spells the command, and it is well-formed for exactly the operands the environment can bring. -/
def Statement (i : Instr) : Prop :=
  (∀ nbits w, decodeTableWord nbits w ≠ some i) ∧
    match i with
    | .configReadTryEnd transfer => i.wf = true ↔ transfer.bytes.length = 256
    | .frameReception bits => i.wf = true ↔ ∃ first rest, bits = first :: rest ∧ first ≠ .one
    | .collision readBack => i.wf = true ↔ 1 ≤ readBack.length ∧ readBack.length ≤ 30
    | .lateCollision readBack => i.wf = true ↔ 31 ≤ readBack.length ∧ readBack.length ≤ 390
    | .transmissionSuccess readBack =>
      i.wf = true ↔ 70 ≤ readBack.length ∧ readBack.length ≤ 390 ∧ readBack.length % 10 = 0
    | .unknownTransactionCode code => i.wf = true ↔ code.toNat = 0 ∨ 7 < code.toNat
    | _ => i.wf = true

/-- The table gives no bits, so the decoder spells no command. -/
theorem unspelt (i : Instr) (nbits w : Nat) : decodeTableWord nbits w ≠ some i := by simp [decodeTableWord]

theorem startReset : Statement .startReset := ⟨unspelt _, rfl⟩

theorem resetRelease (straps : BitVec 6) (sdaPulses : Nat) : Statement (.resetRelease straps sdaPulses) := ⟨unspelt _, rfl⟩

theorem configReadTryEnd (transfer : ReadTry) : Statement (.configReadTryEnd transfer) :=
  ⟨unspelt _, by simp [Instr.wf]⟩

theorem configRetryWaitExpiry (sdaPulses : Nat) : Statement (.configRetryWaitExpiry sdaPulses) := ⟨unspelt _, rfl⟩

theorem frameReception (bits : List LineBit) : Statement (.frameReception bits) := by
  refine ⟨unspelt _, ?_⟩
  cases bits <;> simp [Instr.wf, wfReception]

theorem stationSilentEntry (station : Fin 64) : Statement (.stationSilentEntry station) := ⟨unspelt _, rfl⟩

theorem join : Statement .join := ⟨unspelt _, rfl⟩

theorem releaseConfirmed : Statement .releaseConfirmed := ⟨unspelt _, rfl⟩

theorem askExpiry (entry : Fin 4) : Statement (.askExpiry entry) := ⟨unspelt _, rfl⟩

theorem fallbackAsk (place : Fin 3) : Statement (.fallbackAsk place) := ⟨unspelt _, rfl⟩

theorem departureUnready (cabin : Fin 48) : Statement (.departureUnready cabin) := ⟨unspelt _, rfl⟩

theorem departMarkCountEnd : Statement .departMarkCountEnd := ⟨unspelt _, rfl⟩

theorem isolationEnd : Statement .isolationEnd := ⟨unspelt _, rfl⟩

theorem transmitAttemptStart : Statement .transmitAttemptStart := ⟨unspelt _, rfl⟩

theorem collision (readBack : List LineBit) : Statement (.collision readBack) := ⟨unspelt _, by simp [Instr.wf]⟩

theorem excessAttemptsDiscard : Statement .excessAttemptsDiscard := ⟨unspelt _, rfl⟩

theorem lateCollision (readBack : List LineBit) : Statement (.lateCollision readBack) :=
  ⟨unspelt _, by simp [Instr.wf]⟩

theorem backoffExpiry (place : Fin 8) : Statement (.backoffExpiry place) := ⟨unspelt _, rfl⟩

theorem stateStaggerExpiry : Statement .stateStaggerExpiry := ⟨unspelt _, rfl⟩

theorem transmissionSuccess (readBack : List LineBit) : Statement (.transmissionSuccess readBack) :=
  ⟨unspelt _, by simp [Instr.wf, and_assoc]⟩

theorem isolationEntry : Statement .isolationEntry := ⟨unspelt _, rfl⟩

theorem isolationPeriodExpiry : Statement .isolationPeriodExpiry := ⟨unspelt _, rfl⟩

theorem earlyMarkWindowEnd : Statement .earlyMarkWindowEnd := ⟨unspelt _, rfl⟩

theorem markOfferTime : Statement .markOfferTime := ⟨unspelt _, rfl⟩

theorem roundLoss : Statement .roundLoss := ⟨unspelt _, rfl⟩

theorem founding : Statement .founding := ⟨unspelt _, rfl⟩

theorem driveFaultActive : Statement .driveFaultActive := ⟨unspelt _, rfl⟩

theorem driveFaultInactive : Statement .driveFaultInactive := ⟨unspelt _, rfl⟩

theorem brakeReleasedActive : Statement .brakeReleasedActive := ⟨unspelt _, rfl⟩

theorem brakeReleasedInactive : Statement .brakeReleasedInactive := ⟨unspelt _, rfl⟩

theorem stationaryActive : Statement .stationaryActive := ⟨unspelt _, rfl⟩

theorem stationaryInactive : Statement .stationaryInactive := ⟨unspelt _, rfl⟩

theorem releaseTimerExpiry : Statement .releaseTimerExpiry := ⟨unspelt _, rfl⟩

theorem stopTimerExpiry : Statement .stopTimerExpiry := ⟨unspelt _, rfl⟩

theorem brakeCheckTimerExpiry : Statement .brakeCheckTimerExpiry := ⟨unspelt _, rfl⟩

theorem faultClearTimerExpiry : Statement .faultClearTimerExpiry := ⟨unspelt _, rfl⟩

theorem openEndActive (level : Bool) : Statement (.openEndActive level) := ⟨unspelt _, rfl⟩

theorem closedEndActive : Statement .closedEndActive := ⟨unspelt _, rfl⟩

theorem closedEndInactive : Statement .closedEndInactive := ⟨unspelt _, rfl⟩

theorem latchedActive : Statement .latchedActive := ⟨unspelt _, rfl⟩

theorem latchedInactive : Statement .latchedInactive := ⟨unspelt _, rfl⟩

theorem obstructionActive (level : Bool) : Statement (.obstructionActive level) := ⟨unspelt _, rfl⟩

theorem openLimitExpiry : Statement .openLimitExpiry := ⟨unspelt _, rfl⟩

theorem closeLimitExpiry : Statement .closeLimitExpiry := ⟨unspelt _, rfl⟩

theorem latchLimitExpiry : Statement .latchLimitExpiry := ⟨unspelt _, rfl⟩

theorem recloseDelayExpiry : Statement .recloseDelayExpiry := ⟨unspelt _, rfl⟩

theorem weighingLimitExpiry : Statement .weighingLimitExpiry := ⟨unspelt _, rfl⟩

theorem dwellTimerExpiry : Statement .dwellTimerExpiry := ⟨unspelt _, rfl⟩

theorem callKeyActive : Statement .callKeyActive := ⟨unspelt _, rfl⟩

theorem mkArrive (index : BitVec 6) (valid : Bool) : Statement (.mkArrive index valid) := ⟨unspelt _, rfl⟩

theorem mkTurn : Statement .mkTurn := ⟨unspelt _, rfl⟩

theorem mkClose : Statement .mkClose := ⟨unspelt _, rfl⟩

theorem mkDepart : Statement .mkDepart := ⟨unspelt _, rfl⟩

theorem beamCrossing (beam : Beam) : Statement (.beamCrossing beam) := ⟨unspelt _, rfl⟩

theorem gatePositionChange (gate : GateId) (closed : Bool) : Statement (.gatePositionChange gate closed) := ⟨unspelt _, rfl⟩

theorem gateTravelExpiry (gate : GateId) : Statement (.gateTravelExpiry gate) := ⟨unspelt _, rfl⟩

theorem keyBoardOpen : Statement .keyBoardOpen := ⟨unspelt _, rfl⟩

theorem keyBoardShut : Statement .keyBoardShut := ⟨unspelt _, rfl⟩

theorem keyStop : Statement .keyStop := ⟨unspelt _, rfl⟩

theorem keyResume : Statement .keyResume := ⟨unspelt _, rfl⟩

theorem keyDwell : Statement .keyDwell := ⟨unspelt _, rfl⟩

theorem keyDwellEnd : Statement .keyDwellEnd := ⟨unspelt _, rfl⟩

theorem keyZoneClear : Statement .keyZoneClear := ⟨unspelt _, rfl⟩

theorem consoleKeyStop : Statement .consoleKeyStop := ⟨unspelt _, rfl⟩

theorem consoleKeyResume : Statement .consoleKeyResume := ⟨unspelt _, rfl⟩

theorem keyEvac : Statement .keyEvac := ⟨unspelt _, rfl⟩

theorem keyEvacEnd : Statement .keyEvacEnd := ⟨unspelt _, rfl⟩

theorem windTick : Statement .windTick := ⟨unspelt _, rfl⟩

theorem sensorFaultClear : Statement .sensorFaultClear := ⟨unspelt _, rfl⟩

theorem sliceCompletion : Statement .sliceCompletion := ⟨unspelt _, rfl⟩

theorem watchCalmComplete : Statement .watchCalmComplete := ⟨unspelt _, rfl⟩

theorem releaseCountComplete : Statement .releaseCountComplete := ⟨unspelt _, rfl⟩

theorem clearWaitPassed : Statement .clearWaitPassed := ⟨unspelt _, rfl⟩

theorem zeroingEnd : Statement .zeroingEnd := ⟨unspelt _, rfl⟩

theorem integratingEnd (microvolts : Int) : Statement (.integratingEnd microvolts) := ⟨unspelt _, rfl⟩

theorem zeroCrossingLatch : Statement .zeroCrossingLatch := ⟨unspelt _, rfl⟩

theorem overrangeLatch : Statement .overrangeLatch := ⟨unspelt _, rfl⟩

theorem readRecord (area index : Byte) : Statement (.readRecord area index) := ⟨unspelt _, rfl⟩

theorem readClear (area : Byte) : Statement (.readClear area) := ⟨unspelt _, rfl⟩

theorem release (count : Byte) : Statement (.release count) := ⟨unspelt _, rfl⟩

theorem ask (kind target : Byte) (argument : Word) : Statement (.ask kind target argument) := ⟨unspelt _, rfl⟩

theorem key (code : Byte) : Statement (.key code) := ⟨unspelt _, rfl⟩

theorem setMask (flags : BitVec 24) : Statement (.setMask flags) := ⟨unspelt _, rfl⟩

theorem setSelector (n kind sender subkind : Byte) : Statement (.setSelector n kind sender subkind) := ⟨unspelt _, rfl⟩

theorem answerComplete : Statement .answerComplete := ⟨unspelt _, rfl⟩

theorem selectionEnd : Statement .selectionEnd := ⟨unspelt _, rfl⟩

theorem captureCountReached : Statement .captureCountReached := ⟨unspelt _, rfl⟩

theorem attentionTimerExpiry : Statement .attentionTimerExpiry := ⟨unspelt _, rfl⟩

theorem counterHalfScale (counter : Counter) : Statement (.counterHalfScale counter) := ⟨unspelt _, rfl⟩

theorem unknownTransactionCode (code : Byte) : Statement (.unknownTransactionCode code) :=
  ⟨unspelt _, by simp [Instr.wf]⟩

end Sys2Proof.Laws.Operands
end

