-- ==== Sys2Proof/Laws/Wind.lean ====
section
/-! SUPPORT. What the operations of the Wind Monitor and of the converter do (chapters 7 and 8). -/

namespace Sys2Proof.Machine

set_option Elab.async false

/-- The wind part, and the queue by a WIND_STAGE notice. -/
abbrev windParts : List Part := .wind :: queueParts

theorem State.modWind_wind' (s : State) (f : Wind → Wind) : State.sameBut windParts s (s.modWind f) :=
  State.sameBut_weaken (State.modWind_sameBut s f)

/-- A change of stage (R133). -/
theorem State.changeStage_sameBut (s : State) (stage : Stage) : State.sameBut windParts s (s.changeStage stage) :=
  State.sameBut_then (State.modWind_sameBut s _) (State.sameBut_weaken (State.notice_sameBut _ _ _ _ _))

theorem State.tickCalm_sameBut (s : State) : State.sameBut windParts s s.tickCalm :=
  State.sameBut_ite (State.changeStage_sameBut s _)
    (State.sameBut_ite (State.changeStage_sameBut s _) (State.sameBut_refl _ s))

theorem State.tickWatch_sameBut (s : State) : State.sameBut windParts s s.tickWatch :=
  State.sameBut_ite (State.changeStage_sameBut s _)
    (State.sameBut_ite (State.sameBut_trans (State.modWind_wind' s _) (State.changeStage_sameBut _ _))
      (State.modWind_wind' s _))

theorem State.countClearWait_sameBut (s : State) : State.sameBut windParts s s.countClearWait :=
  State.sameBut_ite (State.sameBut_trans (State.modWind_wind' s _) (State.modWind_wind' _ _)) (State.modWind_wind' s _)

theorem State.tickHold_sameBut (s : State) : State.sameBut windParts s s.tickHold := by
  have counted (f : Wind → Wind) : State.sameBut windParts s (s.countClearWait.modWind f) :=
    State.sameBut_trans (State.countClearWait_sameBut s) (State.modWind_wind' _ f)
  exact State.sameBut_ite (State.sameBut_trans (counted _) (State.changeStage_sameBut _ _))
    (State.sameBut_ite (State.sameBut_trans (counted _) (State.changeStage_sameBut _ _)) (counted _))

theorem State.tickClear_sameBut (s : State) : State.sameBut windParts s s.tickClear :=
  State.sameBut_ite (State.changeStage_sameBut s _)
    (State.sameBut_ite (State.changeStage_sameBut s _) (State.sameBut_refl _ s))

/-- The stage decided at a tick (R133 to R138). -/
theorem State.decideStage_sameBut (s : State) : State.sameBut windParts s s.decideStage := by
  unfold State.decideStage
  split
  · exact State.sameBut_refl _ s
  · split
    · exact State.tickCalm_sameBut s
    · exact State.tickWatch_sameBut s
    · exact State.tickHold_sameBut s
    · exact State.tickClear_sameBut s
    · exact State.sameBut_refl _ s

/-- A wind tick (R127). -/
theorem State.onWindTick_sameBut (s : State) : State.sameBut windParts s s.onWindTick :=
  State.sameBut_trans (State.modWind_wind' s _) (State.decideStage_sameBut _)

/-- A result delivered to the Wind Monitor (R128). -/
theorem State.deliverWind_sameBut (s : State) (r : Result) : State.sameBut [.wind] s (s.deliverWind r) :=
  State.sameBut_ite (State.modWind_sameBut s _) (State.sameBut_refl _ s)

/-- The mean of a ring lies within the bound of its samples (R131, R132). -/
theorem meanOf_le (ring : List Nat) (bound mean : Nat) (all : ∀ n ∈ ring, n ≤ bound) (h : meanOf ring = some mean) :
    mean ≤ bound := by
  have total : ring.sum ≤ ring.length * bound := by
    clear h
    induction ring with
    | nil => simp
    | cons n rest ih =>
      have := ih fun x hx => all x (List.mem_cons_of_mem n hx)
      have := all n (List.mem_cons_self ..)
      simp only [List.sum_cons, List.length_cons, Nat.succ_mul]
      omega
  unfold meanOf at h
  split at h
  · cases h
  · cases h
    exact Nat.div_le_of_le_mul total

/-- A full ring gives up its oldest item; another only grows (R131, R132). -/
theorem pushRing_length (n x : Nat) (ring : List Nat) (h : ring.length ≤ n) (pos : 0 < n) :
    (pushRing n x ring).length = min n (ring.length + 1) := by
  unfold pushRing
  split <;> simp <;> omega

/-- The result's copy handed to the role sequencer (R150, R153). -/
theorem State.deliver_sameBut (s : State) : State.sameBut (.cabin :: .wind :: queueParts) s s.deliver := by
  unfold State.deliver
  split
  · exact State.sameBut_refl _ s
  · split
    · exact State.sameBut_weaken (State.deliverLoad_sameBut s _)
    · exact State.sameBut_weaken (State.deliverWind_sameBut s _)
    all_goals exact State.sameBut_refl _ s

/-- A conversion's result is latched (R150). -/
theorem State.latchResult_sameBut (s : State) (m : ConvMode) (count : Nat) (overrange : Bool) :
    State.sameBut (.conv :: .cabin :: .wind :: queueParts) s (s.latchResult m count overrange) :=
  State.sameBut_then (State.modConv_sameBut s _) (State.sameBut_weaken (State.deliver_sameBut _))

end Sys2Proof.Machine
end

