-- ==== Sys2Proof/Laws/Reception.lean ====
section
/-! SUPPORT. What the receiving side's operations do (R4 to R12, R165). -/

namespace Sys2Proof.Machine

set_option Elab.async false

/-- What hearing a frame may change. -/
abbrev hearingParts : List Part :=
  [.idle, .mode, .roster, .queue, .line, .round, .working, .agreement, .drive, .replica, .cabin, .platform, .gates,
    .wind, .conv, .asks, .capture, .flags, .counters, .attention, .renewal]

/-- What answering an ask may change (R165). -/
abbrev answeringParts : List Part := .cabin :: .conv :: .platform :: .wind :: queueParts

theorem State.askWindResume_sameBut (s : State) : State.sameBut windParts s s.askWindResume.2 := by
  unfold State.askWindResume
  split
  · split
    · exact State.changeStage_sameBut s _
    · exact State.sameBut_refl _ s
  all_goals exact State.sameBut_refl _ s

/-- An ask answered by the own role (R165). -/
theorem State.answerAsk_sameBut (s : State) (kind : AskKind) :
    State.sameBut answeringParts s (s.answerAsk kind).2 := by
  unfold State.answerAsk
  split
  · exact State.sameBut_weaken (State.askDoorOpen_sameBut s)
  · exact State.sameBut_weaken (State.askDoorClose_sameBut s)
  · exact State.sameBut_weaken (State.askDwell_sameBut s)
  · exact State.sameBut_weaken (State.askDwellEnd_sameBut s)
  · exact State.sameBut_weaken (State.setBoarding_sameBut s true)
  · exact State.sameBut_weaken (State.setBoarding_sameBut s false)
  · exact State.sameBut_weaken (State.clearZone_sameBut s)
  · exact State.sameBut_weaken (State.askWindResume_sameBut s)
  · exact State.sameBut_refl _ s

/-- An ask the own role does not answer changes nothing (R165). -/
theorem State.answerAsk_absent (s : State) (kind : AskKind) (h : s.role = .drive ∨ s.role = .console) :
    s.answerAsk kind = (.refused .wrongRole, s) := by
  rcases h with h | h <;> simp [State.answerAsk, h]

/-- An ASK delivered (R165). -/
theorem State.takeAskFrame_sameBut (s : State) (sender : Byte) (body : List Byte) :
    State.sameBut answeringParts s (s.takeAskFrame sender body) := by
  unfold State.takeAskFrame
  dsimp only
  split
  · split
    · exact State.sameBut_weaken (State.reply_sameBut s _ _ _)
    · exact State.sameBut_trans (State.answerAsk_sameBut s _) (State.sameBut_weaken (State.reply_sameBut _ _ _ _))
  · split
    · exact State.sameBut_refl _ s
    · exact State.sameBut_weaken (State.noteAsk_sameBut s _ _)

/-- A NOTICE delivered (R168). -/
theorem State.takeNotice_sameBut (s : State) (sender : Nat) (body : List Byte) :
    State.sameBut hearingParts s (s.takeNotice sender body) :=
  State.sameBut_ite (State.sameBut_weaken (State.takePositionNotice_sameBut s _ _)) (State.sameBut_refl _ s)

/-- A STATE delivered (R35, R68). -/
theorem State.takeState_sameBut (s : State) (sender : Nat) (round : Byte) (body : List Byte) :
    State.sameBut (.round :: .replica :: statusParts) s (s.takeState sender round body) := by
  have entered : State.sameBut (.round :: .replica :: statusParts) s
      (s.enterState sender round (HeardState.ofBody body)) := State.sameBut_weaken (State.enterState_sameBut s _ _ _)
  exact State.sameBut_ite (State.sameBut_trans entered (State.sameBut_weaken (State.takeCabinState_sameBut _ _ _ _)))
    entered

/-- A MARK delivered (R24, R30). -/
theorem State.takeMarkFrame_sameBut (s : State) (sender : Nat) (round : Byte) (body : List Byte) :
    State.sameBut hearingParts s (s.takeMarkFrame sender round body) := by
  have judged : State.sameBut hearingParts s (s.judgeMark sender round body) :=
    State.sameBut_weaken (State.judgeMark_sameBut s _ _ _)
  exact State.sameBut_ite (State.sameBut_trans judged (State.sameBut_weaken (State.countIsolation_sameBut _))) judged

/-- An accepted frame delivered (R12). -/
theorem State.deliverFrame_sameBut (s : State) (f : Frame) : State.sameBut hearingParts s (s.deliverFrame f) := by
  unfold State.deliverFrame
  dsimp only
  split
  · exact State.takeMarkFrame_sameBut s _ _ _
  · exact State.sameBut_weaken (State.takeState_sameBut s _ _ _)
  · exact State.takeNotice_sameBut s _ _
  · exact State.takeNotice_sameBut s _ _
  · exact State.sameBut_weaken (State.takeAskFrame_sameBut s _ _)
  · exact State.sameBut_weaken (State.takeReply_sameBut s _ _)
  · exact State.sameBut_refl _ s

/-- The own number heard (R10). -/
theorem State.lockOut_sameBut (s : State) : State.sameBut giveUpParts s s.lockOut := by
  unfold State.lockOut
  split
  · exact State.sameBut_weaken (State.leaveJoined_sameBut s _)
  · exact State.sameBut_then (State.setMode_sameBut s _) (State.sameBut_weaken (State.modLine_line_sameBut _ _))
  · exact State.sameBut_then (State.setMode_sameBut s _) (State.sameBut_weaken (State.modLine_line_sameBut _ _))
  all_goals exact State.sameBut_refl _ s

/-- The own-number check, the stranger check and the delivery (R10 to R12). -/
theorem State.acceptFrame_sameBut (s : State) (f : Frame) : State.sameBut hearingParts s (s.acceptFrame f) :=
  State.sameBut_ite (State.sameBut_weaken (State.lockOut_sameBut s))
    (State.sameBut_ite (State.sameBut_weaken (State.setFlag_sameBut s _)) (State.deliverFrame_sameBut s f))

/-- A frame of another station of the roster that is no stranger is delivered (R10 to R12). -/
theorem State.acceptFrame_of (s : State) (f : Frame) (other : f.sender.toNat ≠ s.station)
    (known : s.stranger f = false) : s.acceptFrame f = s.deliverFrame f := by
  simp [State.acceptFrame, other, known]

/-- A frame that fails a check is counted and flagged, and no more (R8, R9). -/
theorem State.judgeFrame_sameBut (s : State) (f : Frame) : State.sameBut hearingParts s (s.judgeFrame f) := by
  have counted (c : Counter) (g : Flag) : State.sameBut hearingParts s ((s.bump c).setFlag g) :=
    State.sameBut_then (State.bump_sameBut s _) (State.sameBut_weaken (State.setFlag_sameBut _ _))
  exact State.sameBut_ite (counted _ _) (State.sameBut_ite (counted _ _)
    (State.sameBut_then (State.bump_sameBut s _)
      (State.sameBut_then (State.offerCapture_sameBut _ _ _ _ _ _) (State.acceptFrame_sameBut _ f))))

/-- A frame that passes the CRC check and the format check is counted, offered to capture and judged further. -/
theorem State.judgeFrame_of (s : State) (f : Frame) (h : f.passes) :
    s.judgeFrame f = ((s.bump .framesOk).offerCapture f.header f.sender f.round f.body false).acceptFrame f := by
  simp [State.judgeFrame, h.1, h.2]

theorem State.countRunt_sameBut (s : State) : State.sameBut statusParts s s.countRunt :=
  State.sameBut_then (State.bump_sameBut s _) (State.sameBut_weaken (State.setFlag_sameBut _ _))

theorem State.countLong_sameBut (s : State) : State.sameBut statusParts s s.countLong :=
  State.sameBut_then (State.bump_sameBut s _) (State.sameBut_weaken (State.setFlag_sameBut _ _))

/-- The length check (R7). -/
theorem State.judgeLength_sameBut (s : State) (bytes : List Byte) :
    State.sameBut hearingParts s (s.judgeLength bytes) :=
  State.sameBut_ite (State.sameBut_weaken (State.countRunt_sameBut s))
    (State.sameBut_ite (State.sameBut_weaken (State.countLong_sameBut s))
      (State.sameBut_ite (State.sameBut_weaken (State.countRunt_sameBut s))
        (State.sameBut_ite (State.sameBut_weaken (State.countLong_sameBut s)) (State.judgeFrame_sameBut s _))))

/-- A sequence judged (R6). -/
theorem State.judgeSequence_sameBut (s : State) (bytes : List Byte) (broken : Bool) :
    State.sameBut hearingParts s (s.judgeSequence bytes broken) := by
  unfold State.judgeSequence
  split
  · exact State.sameBut_refl _ s
  · exact State.sameBut_ite (State.sameBut_refl _ s)
      (State.sameBut_ite (State.sameBut_refl _ s) (State.judgeLength_sameBut s _))

/-- A sequence heard. -/
theorem State.hear_sameBut (s : State) (bits : List LineBit) : State.sameBut hearingParts s (s.hear bits) := by
  have first : State.sameBut [.idle] s (s.modLine fun l => { l with idle := 12 }) := by
    intro p hp; cases p <;> simp [State.same] at hp ⊢
  exact State.sameBut_then first (State.judgeSequence_sameBut _ _ _)

/-- Bit times that carry a frame bring it to the CRC check (R3 to R7). -/
theorem State.hear_of (s : State) (bits : List LineBit) (f : Frame) (h : f.carriedBy bits) :
    s.hear bits = (s.modLine fun l => { l with idle := 12 }).judgeFrame f := by
  obtain ⟨rest, broken, r, short, len, rfl⟩ := h
  have two : ¬ rest.length < 2 := by omega
  simp only [State.hear, r, State.judgeSequence, State.judgeLength]
  simp [two, show ¬ rest.length < 6 by omega, show ¬ 32 < (byteAt rest 3).toNat by omega,
    show ¬ rest.length < 6 + (byteAt rest 3).toNat by omega, show ¬ 6 + (byteAt rest 3).toNat < rest.length by omega]

/-- A sequence heard in a station that takes what it hears: its time passes, and it is judged at its end (R4, log 22). -/
theorem execFrameReception_of (bits : List LineBit) {s₀ s : State} (at_ : s₀.atFrameEnd bits s) (h : s.hearing) :
    execFrameReception bits s₀ = .next (s.hear bits).settle := by
  subst at_
  have sending : s₀.line.sending = false := by simpa using h.2
  exact occurs_of _ _ h.1.1 (by simpa [sending] using h.1.2)

/-! ### The receiver on a byte (R3) -/

/-- The number that eight bits of a byte spell is the byte. -/
theorem byteOfBits_dataBits (b : Byte) : byteOfBits (dataBits b) = b := by
  apply BitVec.eq_of_getLsbD_eq
  intro i hi
  revert i
  revert b
  decide

/-- The receiver takes data bits (R3). -/
theorem receiveFrom_bits (new bits : List Bool) (got : List Byte) (rest : List LineBit)
    (h : bits.length + new.length ≤ 8) :
    receiveFrom (some bits) 0 got (new.map drivenBit ++ rest) = receiveFrom (some (bits ++ new)) 0 got rest := by
  induction new generalizing bits with
  | nil => simp
  | cons x more ih =>
    simp only [List.length_cons] at h
    have next := ih (bits ++ [x]) (by simp; omega)
    rw [List.append_assoc] at next
    have short : bits.length ≠ 8 := by omega
    cases x <;> simpa [drivenBit, receiveFrom, short] using next

/-- The receiver takes a whole byte (R3). -/
theorem receiveFrom_byteBits (b : Byte) (gap : Nat) (got : List Byte) (rest : List LineBit) :
    receiveFrom none gap got (byteBits b ++ rest) = receiveFrom none 0 (got ++ [b]) rest := by
  have eight : (dataBits b).length = 8 := rfl
  have whole := byteOfBits_dataBits b
  have taken := receiveFrom_bits (dataBits b) [] got (.one :: rest) (by simp [eight])
  unfold byteBits
  generalize dataBits b = bits at eight whole taken
  simp only [List.cons_append, List.append_assoc, List.nil_append, receiveFrom] at taken ⊢
  rw [taken]
  simp [eight, whole]

/-- What is sent is received (R3). -/
theorem receive_lineBits (bytes : List Byte) : receive (lineBits bytes) = (bytes, false) := by
  have all (bytes : List Byte) (gap : Nat) (got : List Byte) :
      receiveFrom none gap got (lineBits bytes) = (got ++ bytes, false) := by
    induction bytes generalizing gap got with
    | nil => simp [lineBits, receiveFrom]
    | cons b rest ih =>
      have h := receiveFrom_byteBits b gap got (lineBits rest)
      rw [show lineBits (b :: rest) = byteBits b ++ lineBits rest from rfl, h, ih]
      simp
  simpa [receive] using all bytes 0 []

end Sys2Proof.Machine
end

