-- ==== Sys2Proof/Laws/Start.lean ====
section
/-! SUPPORT. How a read try fails (chapter 10, R176). -/

namespace Sys2Proof.Machine

set_option Elab.async false

/-- The bytes that the part sends in a read try, each with the nine bits read back in its place. -/
theorem tryFailure_eq (t : ReadTry) :
    tryFailure t =
      ([((0xAE : Byte), t.writeAddress), (0x00, t.memoryHigh), (0x00, t.memoryLow), (0xAF, t.readAddress)].findSome?
        fun b => sentFault b.1 b.2) := rfl

/-- The line is stuck in a byte when a high bit of it is read back low. -/
theorem sent_and_not_seen (sent : Byte) (seen : BitVec 9) :
    sent &&& ~~~ seen.extractLsb' 1 8 ≠ 0 ↔
      ∃ i : Fin 8, sent.getLsbD i.val = true ∧ seen.getLsbD (i.val + 1) = false := by
  constructor
  · intro h
    refine Classical.byContradiction fun nowhere => h (BitVec.eq_of_getLsbD_eq fun i hi => ?_)
    have here : ¬ (sent.getLsbD i = true ∧ seen.getLsbD (i + 1) = false) := fun b => nowhere ⟨⟨i, hi⟩, b⟩
    cases high : sent.getLsbD i <;> cases low : seen.getLsbD (i + 1) <;>
      simp_all [Nat.add_comm 1]
  · rintro ⟨i, high, low⟩ zero
    have bit := congrArg (fun v => v.getLsbD i.val) zero
    simp only [BitVec.getLsbD_and, BitVec.getLsbD_not, BitVec.getLsbD_extractLsb', Nat.add_comm 1, high, low, i.isLt,
      decide_true] at bit
    exact Bool.noConfusion (bit.trans (Nat.zero_testBit i.val))

/-- A byte in which a high bit is read back low is BUS_STUCK. -/
theorem sentFault_stuck {sent : Byte} {seen : BitVec 9}
    (h : ∃ i : Fin 8, sent.getLsbD i.val = true ∧ seen.getLsbD (i.val + 1) = false) :
    sentFault sent seen = some .busStuck := if_pos ((sent_and_not_seen sent seen).mpr h)

/-- A byte that reads back as sent and is not acknowledged is NO_MEMORY. -/
theorem sentFault_unacknowledged {sent : Byte} {seen : BitVec 9}
    (h : ¬ ∃ i : Fin 8, sent.getLsbD i.val = true ∧ seen.getLsbD (i.val + 1) = false) (ack : seen.getLsbD 0 = true) :
    sentFault sent seen = some .noMemory :=
  (if_neg fun stuck => h ((sent_and_not_seen sent seen).mp stuck)).trans (if_pos ack)

/-- A byte that reads back as sent and is acknowledged does not fail. -/
theorem sentFault_none {sent : Byte} {seen : BitVec 9}
    (h : ¬ ∃ i : Fin 8, sent.getLsbD i.val = true ∧ seen.getLsbD (i.val + 1) = false) (ack : seen.getLsbD 0 = false) :
    sentFault sent seen = none :=
  (if_neg fun stuck => h ((sent_and_not_seen sent seen).mp stuck)).trans (if_neg (by rw [ack]; exact Bool.false_ne_true))

end Sys2Proof.Machine
end

