-- ==== Sys2Proof/Laws/Tap.lean ====
section
/-! SUPPORT. What the Tap Port's operations and a phase of the converter do (chapter 8, sections 11.1 to 11.3). -/

namespace Sys2Proof.Machine

set_option Elab.async false

/-! ### Transactions (R184, R185) -/

/-- An answer that begins touches the tap port only (R184). -/
theorem State.answer_sameBut (s : State) (code : Byte) (args : List Byte) (a : TapAnswer) (ending : TapEnd) :
    State.sameBut [.tap, .renewal] s (s.answer code args a ending) := State.modTap_sameBut s _

/-- The capture switch (R190). -/
theorem State.switchOn_sameBut (s : State) : State.sameBut [.capture] s s.switchOn :=
  State.sameBut_ite (State.modCapture_sameBut s _) (State.sameBut_refl _ s)

/-- In a station that takes commands the switch turns on (R190). -/
theorem State.switchOn_of (s : State) (h : s.mode.receiving = true) :
    s.switchOn = s.modCapture fun c => { c with on := true } := by simp [State.switchOn, h]

/-- A refused transaction changes the tap port and the capture switch only (R185). -/
theorem State.transact_refused (s : State) (code : Byte) (args : List Byte) (r : TapRefusal)
    (act : State → (TapAnswer × TapEnd) × State) :
    State.sameBut [.tap, .renewal, .capture] s (s.transact code args (some r) act) := by
  unfold State.transact
  split
  · exact State.sameBut_weaken (State.answer_sameBut s _ _ _ _)
  · exact State.sameBut_weaken (State.answer_sameBut s _ _ _ _)
  · exact State.sameBut_then (State.switchOn_sameBut s) (State.sameBut_weaken (State.answer_sameBut _ _ _ _ _))
  · rename_i h; cases h

/-- A transaction that is not refused acts with the switch on, and is answered (R184). -/
theorem State.transact_taken (s : State) (code : Byte) (args : List Byte)
    (act : State → (TapAnswer × TapEnd) × State) :
    s.transact code args none act =
      (act s.switchOn).2.answer code args (act s.switchOn).1.1 (act s.switchOn).1.2 := rfl

/-- Every transaction leaves an answer shifting out (R184). -/
theorem State.transact_answers (s : State) (code : Byte) (args : List Byte) (refusal : Option TapRefusal)
    (act : State → (TapAnswer × TapEnd) × State) :
    (s.transact code args refusal act).tap.phase = .answering ∧ (s.transact code args refusal act).tap.code = code ∧
      (s.transact code args refusal act).tap.args = args := by
  unfold State.transact
  split <;> exact ⟨rfl, rfl, rfl⟩

/-- The first case that holds decides (R185). -/
theorem firstCase_none (cases : List (Bool × TapRefusal)) :
    firstCase cases = none ↔ ∀ c ∈ cases, c.1 = false := by
  induction cases with
  | nil => simp [firstCase]
  | cons c rest ih =>
    obtain ⟨holds, r⟩ := c
    cases holds <;> simp [firstCase, ih]

/-- A case that holds, with none before it, decides (R185). -/
theorem firstCase_of (before : List (Bool × TapRefusal)) (r : TapRefusal) (after : List (Bool × TapRefusal))
    (h : ∀ c ∈ before, c.1 = false) : firstCase (before ++ (true, r) :: after) = some r := by
  induction before with
  | nil => rfl
  | cons c rest ih =>
    obtain ⟨holds, q⟩ := c
    have : holds = false := h _ (List.mem_cons_self ..)
    subst this
    simpa [firstCase] using ih fun c hc => h c (List.mem_cons_of_mem _ hc)

/-- In LOADING and CONFIG_FAULT a read of any area but START is refused with NOT_READY (R175, R185). -/
theorem State.readRefusal_notReady {s : State} {area : Byte} (index : Byte) (h : s.mode.receiving = false)
    (other : Area.ofCode area ≠ some .start) : s.readRefusal area index = some .notReady := by
  simp [State.readRefusal, firstCase, State.notReady, h, other]

/-- The record of a converter that has never run shows phase IDLE, mode none and no result (R155, R156). -/
@[simp] theorem Converter.bytes_reset : Converter.reset.bytes = [0, 0, 0] := rfl

/-- Only the loader phase FAULT has the code 3 (12.5). -/
@[simp] theorem LoaderPhase.code_eq_fault (p : LoaderPhase) : p.code = 3 ↔ p = .fault := by cases p <;> decide

/-! ### The end of an answer (R154, R164, R187) -/

/-- What the end of an answer may change. -/
theorem State.endAnswer_sameBut (s : State) :
    State.sameBut [.flags, .counters, .attention, .tap, .renewal, .conv, .asks] s s.endAnswer := by
  unfold State.endAnswer
  split
  · exact State.sameBut_refl _ s
  · exact State.sameBut_weaken (State.modStatus_sameBut s _)
  · exact State.sameBut_weaken (State.modStatus_sameBut s _)
  · exact State.sameBut_weaken (State.modStatus_sameBut s _)
  · exact State.sameBut_then (State.modTap_sameBut s _) (State.sameBut_weaken (State.modConv_sameBut _ _))
  · exact State.sameBut_weaken (State.modAsks_sameBut s _)

/-- A read cut short touches the converter only (R154). -/
theorem State.cutShort_sameBut (s : State) : State.sameBut [.conv] s s.cutShort := by
  unfold State.cutShort
  split
  · exact State.modConv_sameBut s _
  all_goals exact State.sameBut_refl _ s

/-! ### A phase of the converter (R146 to R150) -/

/-- A phase that ends: nothing, or the effect after the time the phase still takes. -/
theorem convStep_cases (phase : ConvPhase) (ready : Converter → Bool) (left : ConvMode → Converter → Nat)
    (effect : ConvMode → State → State) (s : State) :
    convStep phase ready left effect s = .next s ∨
      ∃ m, s.conv.mode = some m ∧ s.conv.phase = phase ∧ ready s.conv = true ∧
        convStep phase ready left effect s = .next (effect m (s.elapse (left m s.conv))).settle := by
  unfold convStep
  split
  · exact .inl rfl
  · split
    · rename_i m hm h
      exact .inr ⟨m, hm, h.2.1, h.2.2, rfl⟩
    · exact .inl rfl

theorem convStep_of (phase : ConvPhase) (ready : Converter → Bool) (left : ConvMode → Converter → Nat)
    (effect : ConvMode → State → State) {s : State} {m : ConvMode} (held : s.resetHeld = false)
    (hm : s.conv.mode = some m) (hp : s.conv.phase = phase) (r : ready s.conv = true) :
    convStep phase ready left effect s = .next (effect m (s.elapse (left m s.conv))).settle := by
  simp [convStep, hm, held, hp, r]

/-! ### The bytes on the port (R184, R201) -/

/-- The codes that name a transaction. -/
theorem knownCode_iff (code : Byte) : knownCode code = true ↔ 1 ≤ code.toNat ∧ code.toNat ≤ 7 := by
  revert code
  decide +kernel

/-- The answer stands whole at its end. -/
@[simp] theorem State.endAnswer_answer (s : State) : s.endAnswer.tap.answer = s.tap.answer ++ s.answerTail := by
  cases e : s.tap.pendingEnd <;> simp [State.endAnswer, State.answerTail, e]

/-- While an answer is shifted out TAP_DO gives its bytes, its last one included, and FFh after them. -/
theorem State.tapOut_answering {s : State} (h : s.tap.phase = .answering) (k : Nat) :
    s.tapOut k = some ((s.tap.answer ++ s.answerTail).getD k 0xFF) := by simp only [State.tapOut, h]

/-- Once the answer is done TAP_DO gives the same bytes. -/
theorem State.tapOut_done {s : State} (h : s.tap.phase = .done) (k : Nat) :
    s.tapOut k = some (s.tap.answer.getD k 0xFF) := by simp only [State.tapOut, h]

end Sys2Proof.Machine
end

