-- ==== Sys2Proof/Tests/Slice0.lean ====
section
/-! SUPPORT. Tests: ill-formed operands are refused, the spec's worked examples hold, each command acts once on a small
state, and for each statement of the provers' list a state and operands that meet its hypotheses (`test_w_<Name>`). -/

namespace Sys2Proof.Tests

set_option Elab.async false

open Sys2Proof.Machine

/-! ### Operands (WellFormed.lean) -/

/-- A transfer in which every byte sent reads back as it was sent and is acknowledged, and these bytes are read. -/
def tRead (bytes : List Byte) : ReadTry := ⟨0x15C, 0, 0, 0x15E, bytes⟩

theorem test_wf_image_of_255_bytes : Instr.wf (.configReadTryEnd (tRead (List.replicate 255 0))) = false := by
  decide +kernel

theorem test_wf_image_of_256_bytes : Instr.wf (.configReadTryEnd (tRead (List.replicate 256 0))) = true := by
  decide +kernel

theorem test_wf_reception_empty : Instr.wf (.frameReception []) = false := by decide

theorem test_wf_reception_without_start_bit : Instr.wf (.frameReception [.one, .zero]) = false := by decide

theorem test_wf_collision_without_a_bit : Instr.wf (.collision []) = false := by decide

theorem test_wf_collision_past_the_sender : Instr.wf (.collision (List.replicate 31 .one)) = false := by decide +kernel

theorem test_wf_late_collision_in_the_third_byte : Instr.wf (.lateCollision (List.replicate 30 .one)) = false := by
  decide +kernel

theorem test_wf_late_collision_past_the_longest_frame : Instr.wf (.lateCollision (List.replicate 391 .one)) = false := by
  decide +kernel

theorem test_wf_success_of_part_of_a_byte : Instr.wf (.transmissionSuccess (List.replicate 79 .one)) = false := by
  decide +kernel

theorem test_wf_success_of_six_bytes : Instr.wf (.transmissionSuccess (List.replicate 60 .one)) = false := by
  decide +kernel

theorem test_wf_transaction_code_known : Instr.wf (.unknownTransactionCode 7) = false := by decide

theorem test_no_word_is_a_command : decodeTableWord 8 0xA7 = none := rfl

/-! ### Small stations -/

/-- A configured roster entry. -/
def tEntry (role : Role) (cabin rank : Option Nat) : RosterEntry := ⟨role, cabin, rank, 0, false, none⟩

/-- Stations 0..5: PLATFORM, CABIN 0, DRIVE, MAST, CONSOLE, CABIN 47. -/
def tRoster : List RosterEntry :=
  [tEntry .platform none (some 0), tEntry .cabin (some 0) none, tEntry .drive none (some 1),
    tEntry .mast none (some 7), tEntry .console none none, tEntry .cabin (some 47) none] ++
    List.replicate 58 RosterEntry.absent

/-- Replica records of the two cabins, taken in round 7. -/
def tRecords : List CabinRecord :=
  { CabinRecord.start 1 with lastRound := some 7 } :: List.replicate 46 CabinRecord.unused ++
    [{ CabinRecord.start 5 with lastRound := some 7 }]

/-- A joined station in the middle of round 7; every gate of a PLATFORM shut, every door closed and latched. -/
def tStation (n : Nat) : State :=
  ({ State.reset with
    fi := if n = 0 then 0x018000 else if n = 1 then 0x000006 else 0
    resetHeld := false
    mode := .joined
    station := n
    roster := tRoster
    round :=
      { Round.reset with
        number := 7, timer := 125000, current := HeardSide.open 7, frozen := HeardSide.open 6, marksTaken := 2
        firstMark := false }
    replica := ⟨tRecords, false⟩
    platform := { Platform.reset with rebuildPending := false }
    conv :=
      if n = 1 then Converter.zero .load { Converter.reset with mode := some .load }
      else if n = 3 then Converter.zero .wind { Converter.reset with mode := some .wind }
      else Converter.reset
    wind := if n = 3 then { Wind.reset with tick := some (ms 250) } else Wind.reset }).writeWorking

/-- The part in LOADING, its reset released. -/
def tLoading : State := { State.reset with resetHeld := false }

/-- The state a command leaves. -/
def after (c : Instr) (s : State) : State :=
  match exec c s with
  | .next t => t
  | _ => s

/-- A frame with the CRC it should have. -/
def tFrame (header sender round : Byte) (body : List Byte) : Frame :=
  ⟨header, sender, round, body, crc16 (frameContent header sender round body)⟩

/-- Its bit times. -/
def tBits (header sender round : Byte) (body : List Byte) : List LineBit := lineBits (frameBytes header sender round body)

/-- The bytes of its frame after the sync byte. -/
def tRest (header sender round : Byte) (body : List Byte) : List Byte := (frameBytes header sender round body).drop 1

/-- The frame comes through the line as it was sent. -/
def tCarries (header sender round : Byte) (body : List Byte) : Bool :=
  let rest := tRest header sender round body
  decide (receive (tBits header sender round body) = (syncByte :: rest, false)) && decide ((byteAt rest 3).toNat ≤ 32) &&
    decide (rest.length = 6 + (byteAt rest 3).toNat) && decide (Frame.ofBytes rest = tFrame header sender round body)

theorem tCarried {header sender round : Byte} {body : List Byte} (h : tCarries header sender round body = true) :
    (tFrame header sender round body).carriedBy (tBits header sender round body) := by
  simp only [tCarries, Bool.and_eq_true, decide_eq_true_eq] at h
  exact ⟨_, false, h.1.1.1, h.1.1.2, h.1.2, h.2⟩

/-- The station accepts the frame. -/
def tAccepts (s : State) (header sender round : Byte) (body : List Byte) : Bool :=
  tCarries header sender round body &&
    decide (s.resetHeld = false ∧ s.mode.receiving = true ∧ s.line.sending = false ∧
      (tFrame header sender round body).expectedCrc = (tFrame header sender round body).crc ∧
      formatOk (tFrame header sender round body) = true ∧ sender.toNat ≠ s.station ∧ s.roleAt sender.toNat ≠ .absent ∧
      (header = classHeader .state → Role.ofCode (byteAt body 4) = some (s.roleAt sender.toNat)))

/-- The station at the end of a sequence that begins now. -/
def tAt (bits : List LineBit) (s : State) : State := s.elapse ((12 - s.line.idle) + bits.length + 12)

/-- A station that hears at the beginning of a sequence hears at its end, with the counters it had. -/
theorem tHearing {s : State} (bits : List LineBit) (h : s.hearing ∧ s.CountersSound) :
    s.atFrameEnd bits (tAt bits s) ∧ (tAt bits s).hearing ∧ (tAt bits s).CountersSound :=
  ⟨rfl, ⟨h.1.1, (Line.elapse_sending _ _).trans h.1.2⟩, h.2⟩

theorem tAccepted {s : State} {header sender round : Byte} {body : List Byte}
    (h : tAccepts s header sender round body = true) :
    (tFrame header sender round body).acceptedBy (tBits header sender round body) s := by
  simp only [tAccepts, Bool.and_eq_true, decide_eq_true_eq] at h
  obtain ⟨c, a, b, d, e, f, g, i, j⟩ := h
  exact ⟨⟨⟨a, b⟩, d⟩, tCarried c, ⟨e, f⟩, g, i, j⟩

/-- The station that begins to hear the frame accepts it at its end. -/
theorem tDelivered {s : State} {header sender round : Byte} {body : List Byte}
    (h : tAccepts s header sender round body = true) :
    s.atFrameEnd (tBits header sender round body) (tAt (tBits header sender round body) s) ∧
      (tFrame header sender round body).acceptedBy (tBits header sender round body)
        (tAt (tBits header sender round body) s) :=
  have a := tAccepted h
  ⟨rfl, ⟨a.1.1, (Line.elapse_sending _ _).trans a.1.2⟩, a.2⟩

/-- The body of a MARK: nobody aboard, the digest of two UNKNOWN cabins, level STOP. -/
def tMarkBody : List Byte := markBody 2 (tStation 4).digest .stop

/-- The MARK of round 8, sent by the PLATFORM to the others and by the DRIVE to it. -/
def tMarker (s : State) : Byte := if s.station = 0 then 2 else 0

/-- The command that brings it. -/
def tMark (s : State) : Instr := .frameReception (tBits 0x11 (tMarker s) 8 tMarkBody)

/-- The station as the MARK ends. -/
def tAtMark (s : State) : State := tAt (tBits 0x11 (tMarker s) 8 tMarkBody) s

/-- The station takes that MARK. -/
def tTakes (s : State) : Bool :=
  tAccepts s 0x11 (tMarker s) 8 tMarkBody &&
    decide ((s.entryAt (tMarker s).toNat).rank ≠ none ∧
      ((tAtMark s).round.firstMark = true ∨ (tAtMark s).settings.periodTime / 2 ≤ (tAtMark s).round.timer))

theorem tTaken {s : State} (h : tTakes s = true) : s.takesMark (tMark s) (tAtMark s) 8 (some tMarkBody) := by
  simp only [tTakes, Bool.and_eq_true, decide_eq_true_eq] at h
  exact .inl ⟨_, _, rfl, tAccepted h.1, rfl, h.2.1, rfl, h.2.2, rfl, rfl⟩

/-- An entry being sent, its frame's bytes given, a number of bit times already sent. -/
def tSending (cls : FrameClass) (body frame : List Byte) (sent : Nat) : TxEntry :=
  ⟨cls, body, 0, none, none, some ⟨frame, sent, .keep⟩⟩

/-- The bit times of the frame being sent, read back as they were sent. -/
def tWhole (s : State) : List LineBit :=
  match s.sendingEntry with
  | none => []
  | some x => x.2.2.levels

/-- The frame being sent, read back as sent up to a bit time that reads CONTENDED. -/
def tBreak (s : State) (k : Nat) : List LineBit := (tWhole s).take k ++ [.contended]

/-- That bit time is the first mismatch. -/
theorem tBroken {s : State} {place k : Nat} {e : TxEntry} {a : Attempt} (h : s.sendingEntry = some (place, e, a))
    (inside : k < 10 * a.frame.length) : a.mismatchAt (tBreak s k) k := by
  have whole : tBreak s k = (lineBits a.frame).take k ++ [.contended] := by simp [tBreak, tWhole, h, Attempt.levels]
  have long : k < (lineBits a.frame).length := by simpa using inside
  have size : ((lineBits a.frame).take k).length = k := by simp only [List.length_take]; omega
  refine ⟨inside, fun j hj => ?_, ?_, ?_⟩
  · rw [whole, List.getElem?_append_left (by omega), List.getElem?_take_of_lt hj]
  · rw [whole, List.getElem?_append_right (by omega), size]; simp
  · rw [whole, List.getElem?_append_right (by omega), size]
    intro same
    have driven : LineBit.contended ∈ lineBits a.frame := List.mem_of_getElem? (i := k) (by simpa using same.symm)
    simp only [lineBits, List.mem_flatMap, byteBits, dataBits] at driven
    obtain ⟨b, -, hb⟩ := driven
    simp [drivenBit] at hb
    grind

/-- The frame of the own MARK. -/
def tOwnMark : List Byte := frameBytes 0x11 2 8 tMarkBody

/-- A station that is sending its own MARK. -/
def tMarking (s : State) : State := s.modLine fun l => { l with queue := [tSending .mark [] tOwnMark 10] }

theorem tOwnTaken {s : State} (h : s.resetHeld = false ∧ s.mode = .joined ∧
    s.sendingEntry = some (0, tSending .mark [] tOwnMark 10, ⟨tOwnMark, 10, .keep⟩)) :
    s.takesMark (.transmissionSuccess (lineBits tOwnMark)) (s.elapse (10 * tOwnMark.length - 10)) (s.round.number + 1) none :=
  .inr ⟨0, _, _, rfl, h.1, h.2.1, h.2.2, rfl, rfl, rfl, rfl⟩

theorem tCounters {s : State} (h : s.status.counters.length = 14 ∧ (∀ n ∈ s.status.counters, n ≤ 65535) ∧
    s.status.newCaptures ≤ 255 ∧ s.tap.pendingEnd = .nothing) : s.CountersSound :=
  ⟨h.1, h.2.1, h.2.2.1, fun shown e => by rw [h.2.2.2] at e; cases e⟩

/-! ### The spec's examples -/

/-- R4: the CRC of the nine ASCII bytes "123456789". -/
theorem test_crc_check_string : crc16 [0x31, 0x32, 0x33, 0x34, 0x35, 0x36, 0x37, 0x38, 0x39] = 0x29B1 := by
  decide +kernel

/-- R4: the shortest frame takes 7 bytes and 70 microseconds. -/
theorem test_shortest_frame : (frameBytes 0x11 0 0 []).length = 7 ∧ (tBits 0x11 0 0 []).length = 70 := by decide +kernel

/-- R5: a PLATFORM STATE with three zone entries takes 26 bytes. -/
theorem test_longest_legal_frame : (frameBytes 0x23 0 0 (List.replicate 19 0)).length = 26 := by decide +kernel

/-- R19: the sequence from seed 1. -/
theorem test_prng_from_one : prngStep 1 = 0x8000 ∧ prngStep 0x8000 = 0x4000 := by decide +kernel

/-! ### The machine and the wheel line -/

/-- R174 and a waiting command: the step runs it on the queue's rest. -/
theorem test_step_takes_the_front : ∃ t, step { State.reset with pending := [.resetRelease 63 0, .join] } = .next t ∧
    t.station = 63 ∧ t.line.prng = 64 ∧ t.pending = [.join] := ⟨_, rfl, by decide +kernel⟩

theorem test_w_IdleStepLetsAMicrosecondPass :
    (State.reset.pending = [] ∧ State.reset.resetHeld = true) ∧
    ((tStation 3).pending = [] ∧ (tStation 3).running ∧
      (tStation 3).round.timer < 2 * (tStation 3).settings.periodTime) := by
  refine ⟨by decide, rfl, ⟨rfl, rfl⟩, by decide +kernel⟩

theorem test_w_CommandsActWhereTheModeAllows :
    (∃ t, exec .join { tLoading with mode := .configFault } = .next t) ∧
    (∃ t, exec .keyStop { tStation 0 with mode := .lockedOut } = .next t ∧ (tStation 0).line.queue = []) ∧
    (tLoading.resetHeld = false ∧ tLoading.mode.receiving = false ∧ tLoading.StartSound) ∧
    (∀ left ∈ [1, 10000],
      let s := { tStation 4 with filter := List.replicate 23 0 ++ [left] }
      let k := { tStation 0 with filter := s.filter }
      s.resetHeld = false ∧ inputLine .keyZoneClear = some 23 ∧ s.filter[23]? = some left ∧ 0 < left ∧
        (after .keyZoneClear (k.modPlatform fun p => { p with orderFault := true })).platform.orderFault = true) :=
  ⟨⟨_, rfl⟩, ⟨_, rfl, rfl⟩, ⟨rfl, rfl, by unfold State.StartSound; decide +kernel⟩, by decide +kernel⟩

theorem test_w_FrameIsReceivedAsSent :
    (List.replicate 32 (0xFF : Byte)).length ≤ 32 ∧ tCarries 0x23 63 255 (List.replicate 32 0xFF) = true ∧
    tCarries 0x11 0 0 [] = true ∧ (List.replicate 8 true).length ≤ 8 ∧
    receive (lineBits [0xA7] ++ [.zero] ++ (List.replicate 8 true).map drivenBit ++ [.contended] ++ [.one]) =
      ([0xA7], true) := by decide +kernel

/-- Bit times, the bytes received, whether a break ended them, and what they count. -/
def tBadFrames : List (List LineBit × List Byte × Bool × Counter × Flag) :=
  [(lineBits [0xA7, 0x11, 3, 8, 4], [0x11, 3, 8, 4], false, .runt, .runtLong),
    (lineBits [0xA7, 0x11, 3] ++ [.contended], [0x11, 3], true, .runt, .runtLong),
    (lineBits [0xA7, 0x11, 3, 8, 33, 0, 0], [0x11, 3, 8, 33, 0, 0], false, .long, .runtLong),
    (lineBits [0xA7, 0x11, 3, 8, 33, 0, 0] ++ [.contended], [0x11, 3, 8, 33, 0, 0], true, .long, .runtLong),
    (lineBits [0xA7, 0x11, 3, 8, 0, 0, 0] ++ [.contended], [0x11, 3, 8, 0, 0, 0], true, .crcErr, .crc),
    (lineBits [0xA7, 0x11, 3, 8, 32, 0, 0], [0x11, 3, 8, 32, 0, 0], false, .runt, .runtLong),
    (lineBits [0xA7, 0x11, 3, 8, 0, 0, 0, 0], [0x11, 3, 8, 0, 0, 0, 0], false, .long, .runtLong),
    (lineBits [0xA7, 0x11, 3, 8, 0, 0, 0], [0x11, 3, 8, 0, 0, 0], false, .crcErr, .crc),
    (tBits 0x11 3 8 [], tRest 0x11 3 8 [], false, .formatErr, .format)]

theorem test_w_FailedChecksDiscardTheFrame :
    (∀ bits : List LineBit, (tStation 4).atFrameEnd bits (tAt bits (tStation 4)) ∧
      (tAt bits (tStation 4)).hearing ∧ (tAt bits (tStation 4)).CountersSound) ∧
    (∀ x ∈ [([LineBit.contended], [], true), (lineBits [0xA6], [0xA6], false),
        (lineBits [0xA7, 0x11] ++ [.contended], [0xA7, 0x11], true)],
      receive x.1 = (x.2.1, x.2.2) ∧
        (x.2.1 = [] ∨ byteAt x.2.1 0 ≠ syncByte ∨ (x.2.2 = true ∧ x.2.1.length < 3))) ∧
    ∀ x ∈ tBadFrames,
      let rest := x.2.1
      let c := x.2.2.2.1
      let f := x.2.2.2.2
      let declared := (byteAt rest 3).toNat
      let frame := Frame.ofBytes rest
      receive x.1 = (syncByte :: rest, x.2.2.1) ∧ ¬ (x.2.2.1 = true ∧ rest.length < 2) ∧
      (rest.length < 6 ∧ c = .runt ∧ f = .runtLong ∨
        6 ≤ rest.length ∧ 32 < declared ∧ c = .long ∧ f = .runtLong ∨
        6 ≤ rest.length ∧ declared ≤ 32 ∧ rest.length < 6 + declared ∧ c = .runt ∧ f = .runtLong ∨
        declared ≤ 32 ∧ 6 + declared < rest.length ∧ c = .long ∧ f = .runtLong ∨
        declared ≤ 32 ∧ rest.length = 6 + declared ∧ frame.expectedCrc ≠ frame.crc ∧ c = .crcErr ∧ f = .crc ∨
        declared ≤ 32 ∧ rest.length = 6 + declared ∧ frame.expectedCrc = frame.crc ∧ formatOk frame = false ∧
          c = .formatErr ∧ f = .format) ∧
      (after (.frameReception x.1) (tStation 4)).counter c = 1 ∧
      (after (.frameReception x.1) (tStation 4)).flag f = true :=
  ⟨fun bits => tHearing bits ⟨⟨⟨rfl, rfl⟩, by decide +kernel⟩, tCounters (by decide +kernel)⟩, by decide +kernel,
    by decide +kernel⟩

/-- A CONSOLE station in each receiving mode. -/
def tReceivers : List State :=
  [tStation 4, { tStation 4 with mode := .isolated }, { tStation 4 with mode := .listening },
    { tStation 4 with mode := .lockedOut }]

theorem test_w_OwnNumberLocksOut : ∀ s ∈ tReceivers,
    (let bits := tBits 0x52 4 7 [4, 0, 0, 0]
     s.atFrameEnd bits (tAt bits s) ∧ (tAt bits s).hearing ∧ (tAt bits s).CountersSound) ∧
    (tFrame 0x52 4 7 [4, 0, 0, 0]).carriedBy (tBits 0x52 4 7 [4, 0, 0, 0]) ∧ (tFrame 0x52 4 7 [4, 0, 0, 0]).passes ∧
    (tFrame 0x52 4 7 [4, 0, 0, 0]).sender.toNat = s.station := fun s h =>
  have a := (by decide +kernel : ∀ s ∈ tReceivers, (s.resetHeld = false ∧ s.mode.receiving = true) ∧
    s.line.sending = false) s h
  have b := (by decide +kernel : ∀ s ∈ tReceivers, s.status.counters.length = 14 ∧
    (∀ n ∈ s.status.counters, n ≤ 65535) ∧ s.status.newCaptures ≤ 255 ∧ s.tap.pendingEnd = .nothing) s h
  ⟨tHearing _ ⟨a, tCounters b⟩, tCarried (by decide +kernel), ⟨by decide +kernel, by decide +kernel⟩,
    (by decide +kernel : ∀ s ∈ tReceivers, (tFrame 0x52 4 7 [4, 0, 0, 0]).sender.toNat = s.station) s h⟩

theorem test_w_StrangersStayOut :
    (∀ bits : List LineBit, (tStation 4).atFrameEnd bits (tAt bits (tStation 4)) ∧
      (tAt bits (tStation 4)).hearing ∧ (tAt bits (tStation 4)).CountersSound) ∧
    (tFrame 0x52 6 7 [4, 0, 0, 0]).carriedBy (tBits 0x52 6 7 [4, 0, 0, 0]) ∧
    (tFrame 0x52 6 7 [4, 0, 0, 0]).passes ∧ (tFrame 0x52 6 7 [4, 0, 0, 0]).sender.toNat ≠ (tStation 4).station ∧
    (tStation 4).roleAt 6 = .absent ∧
    (let f := tFrame 0x23 3 7 [0, 0, 0, 0, 3, 0, 0, 0, 0]
     f.carriedBy (tBits 0x23 3 7 [0, 0, 0, 0, 3, 0, 0, 0, 0]) ∧ f.passes ∧ f.header = classHeader .state ∧
       Role.ofCode (byteAt f.body 4) ≠ some ((tStation 4).roleAt f.sender.toNat)) :=
  ⟨fun bits => tHearing bits ⟨⟨⟨rfl, rfl⟩, by decide +kernel⟩, tCounters (by decide +kernel)⟩,
    tCarried (by decide +kernel), ⟨by decide +kernel, by decide +kernel⟩, by decide +kernel, by decide +kernel, tCarried (by decide +kernel),
    ⟨by decide +kernel, by decide +kernel⟩, by decide +kernel, by decide +kernel⟩

/-- The station with a transmit queue. -/
def tQueue (s : State) (queue : List TxEntry) : State := s.modLine fun l => { l with queue := queue }

/-- The station with the peers-congested flag set. -/
def tCongested (s : State) : State := s.modLine fun l => { l with peersCongested := true }

theorem test_w_OfferedFrameMeetsItsFate :
    let info := TxEntry.fresh .info [1] none
    let essential := TxEntry.fresh .essential [2] none
    let full := tQueue (tStation 4) (List.replicate 7 essential ++ [info])
    let stuffed := tQueue (tStation 4) (List.replicate 8 essential)
    let others := tQueue (tStation 4) [essential, TxEntry.fresh .state [3] (some 1), info]
    ((tLoading.queueOffer .ask [9] none).1 = .discarded) ∧
    ((tCongested tLoading).queueOffer .info [9] none = (.discarded, tCongested tLoading)) ∧
    ((tCongested (tStation 4)).queueOffer .info [9] none).1 = .discarded ∧
    ((others.queueOffer .state [9] none).1 = .taken ∧
      (others.queueOffer .state [9] none).2.line.queue = [essential, TxEntry.fresh .state [9] none, info]) ∧
    (∀ x ∈ [(FrameClass.state, [(3 : Byte)], some 1), (.mark, [], none)],
      let sending := tSending x.1 x.2.1 [] 0
      let s := tQueue (tStation 4) [essential, sending, info]
      (s.queueOffer x.1 [9] x.2.2).1 = .taken ∧
        (s.queueOffer x.1 [9] x.2.2).2.line.queue =
          [essential, { sending with attempt := some ⟨[], 0, .replace [9] x.2.2⟩ }, info]) ∧
    (((tStation 4).queueOffer .mark [] none).2.line.queue = [TxEntry.fresh .mark [] none]) ∧
    ((full.queueOffer .info [9] none).1 = .discarded ∧ (full.queueOffer .info [9] none).2.counter .txDrops = 1) ∧
    ((full.queueOffer .reply [9] none).1 = .displaced ∧
      (full.queueOffer .reply [9] none).2.line.queue = List.replicate 7 essential ++ [TxEntry.fresh .reply [9] none]) ∧
    ((stuffed.queueOffer .reply [9] none).1 = .discarded ∧
      (stuffed.queueOffer .reply [9] none).2.flag .txqOverflow = true) ∧
    (∀ s ∈ [full, stuffed, others], s.CountersSound) := by
  refine ⟨?_, State.queueOffer_of_not_joined _ _ _ _ (by decide +kernel), ?_, ?_, ?_, ?_, ?_, ?_, ?_, ?_⟩
  iterate 8 decide +kernel
  intro s h
  simp only [List.mem_cons, List.not_mem_nil, or_false] at h
  rcases h with rfl | rfl | rfl <;> exact tCounters (by decide +kernel)

theorem test_w_AttemptTakesTheHighestClassFirstArrived :
    let ask := TxEntry.fresh .ask [1, 1, 0, 0, 0] none
    let backed : TxEntry := { TxEntry.fresh .reply [0, 0, 0, 0] none with backoff := some 32 }
    let mark := TxEntry.fresh .mark [] none
    (∀ x ∈ [([backed], ask, [ask]), ([ask], mark, [ask])],
      let s := tQueue (tStation 2) (x.1 ++ x.2.1 :: x.2.2)
      let u := s.elapse (16 - s.line.idle)
      s.resetHeld = false ∧ s.mode = .joined ∧ s.line.sending = false ∧
        u.line.queue = x.1.map (TxEntry.elapse 16) ++ x.2.1 :: x.2.2 ∧ x.2.1.eligible = true ∧
        (∀ y ∈ x.1.map (TxEntry.elapse 16), y.eligible = true → x.2.1.cls.toNat < y.cls.toNat) ∧
        (∀ y ∈ x.2.2, y.eligible = true → x.2.1.cls.toNat ≤ y.cls.toNat) ∧
        ((after .transmitAttemptStart s).line.queue[1]?).map (fun y => y.attempt.isSome) = some true) ∧
    (let s := tQueue (tStation 2) [backed, TxEntry.fresh .state [0] (some 4000)]
     s.resetHeld = false ∧ s.backoffLeft 0 = some 32 ∧ s.staggerLeft = some 4000 ∧
       (after (.backoffExpiry 0) s).line.queue =
         [{ backed with backoff := none }, TxEntry.fresh .state [0] (some 3968)] ∧
       (after .stateStaggerExpiry s).line.queue =
         [{ backed with backoff := some 0 }, TxEntry.fresh .state [0] none]) := by decide +kernel

/-- A zone entry of cabin 0 or 47. -/
def tZoneEntry (cabin : Nat) (seg : Segment) : ZoneEntry :=
  ⟨cabin, if cabin = 0 then 1 else 5, seg, .normal, some 60, 2, 5, false, false, false, 0, .unused, false⟩

/-- The platform with a zone queue. -/
def tZone (entries : List ZoneEntry) : State := (tStation 0).modPlatform fun p => { p with zone := entries }

/-- R5: a PLATFORM whose zone is empty, and one whose zone is full, send the length their zone entry count gives. -/
theorem test_w_FormatCheckIsTheTableOfLegalFrames :
    (∀ n ∈ [0, 3],
      let s := tZone (List.replicate n (tZoneEntry 0 .exit))
      s.role = .platform ∧ s.platform.zone.length = n ∧ (s.ownStatement.bytes false).length = 10 + 3 * n) ∧
    formatOk (tFrame 0x23 0 7 ((tStation 0).ownStatement.bytes true)) = true := by decide +kernel

/-- An ASK on the line, its third collision to come; its frame is cut to the bytes that matter. -/
def tCollider (attempts : Nat) : State :=
  tQueue (tStation 2) [{ tSending .ask [1, 1, 0, 0, 0] (frameBytes 0x44 2 7 [1, 1, 0, 0, 0]) 5 with attempts := attempts }]

/-- The own STATE on the line, met by a replacement or a removal, with an INFO NOTICE behind it. -/
def tMet (after_ : AfterAttempt) : State :=
  tQueue (tStation 2)
    [{ tSending .state [0] (frameBytes 0x23 2 7 [0]) 5 with attempt := some ⟨frameBytes 0x23 2 7 [0], 5, after_⟩ },
      TxEntry.fresh .info [1] none]

/-- What a replacement leaves in the queue, and what a removal does. -/
def tMetQueues : List (AfterAttempt × List TxEntry) :=
  [(.replace [9] (some 4000), [TxEntry.fresh .state [9] (some 4000), TxEntry.fresh .info [1] none]),
    (.remove, [TxEntry.fresh .info [1] none])]

theorem test_w_CollisionDrawsABackoff :
    (let s := tCollider 8
     s.resetHeld = false ∧ s.CountersSound ∧ (s.sendingEntry).map (fun x => (x.1, x.2.2.after)) = some (0, .keep) ∧
       8 + 1 < s.settings.attemptLimit ∧
       ((after (.collision (tBreak s 29)) s).line.queue[0]?).map TxEntry.attempts = some 9 ∧
       (after (.collision (tBreak s 29)) s).counter .collisions = 1) ∧
    (∀ x ∈ tMetQueues,
      let s := tMet x.1
      s.resetHeld = false ∧ (s.sendingEntry).map (fun y => (y.1, y.2.2.after)) = some (0, x.1) ∧
        s.line.markWaiting = false ∧ (after (.collision (tBreak s 29)) s).line.queue = x.2 ∧
        (after (.collision (tBreak s 29)) s).counter .collisions = 1) ∧
    (∀ x ∈ tMetQueues, (tMet x.1).CountersSound) :=
  ⟨⟨rfl, tCounters (by decide +kernel), by decide +kernel, by decide +kernel, by decide +kernel, by decide +kernel⟩,
    by decide +kernel, fun _ _ => (tCounters (by decide +kernel) : (tStation 2).CountersSound)⟩

theorem test_w_FailedFrameLeavesTheQueue :
    (let s := tCollider 9
     s.resetHeld = false ∧ s.mode = .joined ∧ s.CountersSound ∧ s.settings.attemptLimit ≤ 9 + 1 ∧
       s.line.isoScore < 3 ∧ s.line.markWaiting = false ∧ s.line.queue.length ≤ 8 ∧
       atMostOne (fun x => x.cls == .mark) s.line.queue ∧
       (∀ c ∈ [Instr.collision (tBreak s 29), .lateCollision (tBreak s 30), .lateCollision (tBreak s 119)],
         (after c s).line.queue = [] ∧ (after c s).line.isoScore = 1)) ∧
    (let old : TxEntry := { TxEntry.fresh .essential [1] none with attempts := 10 }
     let s := tQueue (tStation 2) [TxEntry.fresh .info [] none, old]
     s.resetHeld = false ∧ s.mode = .joined ∧ s.CountersSound ∧ s.settings.attemptLimit ≤ old.attempts ∧
       s.line.isoScore < 3 ∧ s.line.markWaiting = false ∧
       s.line.queue.length ≤ 8 ∧ atMostOne (fun x => x.cls == .mark) s.line.queue ∧
       (after .excessAttemptsDiscard s).line.queue = [TxEntry.fresh .info [] none]) ∧
    (∀ x ∈ tMetQueues,
      let s := tMet x.1
      s.mode = .joined ∧ s.line.isoScore < 3 ∧ (after (.lateCollision (tBreak s 30)) s).line.queue = x.2 ∧
        (after (.lateCollision (tBreak s 30)) s).line.isoScore = 1) ∧
    (∀ x ∈ [(tCollider 9, Instr.collision (tBreak (tCollider 9) 29)),
        (tCollider 9, .lateCollision (tBreak (tCollider 9) 119))],
      let s := x.1.modLine fun l =>
        { l with queue := l.queue ++ List.replicate 7 (TxEntry.fresh .essential [1] none), markWaiting := true }
      s.resetHeld = false ∧ s.mode = .joined ∧ (s.sendingEntry).map (fun y => (y.1, y.2.2.after)) = some (0, .keep) ∧
        s.line.queue.length = 8 ∧ (∀ y ∈ s.line.queue, y.cls ≠ .mark) ∧
        (after x.2 s).line.queue =
          List.replicate 7 (TxEntry.fresh .essential [1] none) ++ [TxEntry.fresh .mark [] none] ∧
        (after x.2 s).line.markWaiting = false) ∧
    (let s := ((tZone [{ tZoneEntry 0 .exit with fallback := .pending .doorOpen 0 }]).modAsks fun a =>
        { a with entries := a.entries.set 0 ⟨.queued, .fallback, .doorOpen, 1, 0, 0, 0, none, none⟩ }).modLine fun l =>
       { l with
         queue := { tSending .ask [1, 1, 0, 0, 0] (frameBytes 0x44 0 7 [1, 1, 0, 0, 0]) 5 with attempts := 9 } ::
           List.replicate 7 (TxEntry.fresh .essential [1] none)
         markWaiting := true }
     (after (.collision (tBreak s 29)) s).line.queue.map TxEntry.cls = List.replicate 7 .essential ++ [.mark] ∧
       (after (.collision (tBreak s 29)) s).counter .txDrops = 0 ∧ (after (.collision (tBreak s 29)) s).flag .txqOverflow = true) :=
  ⟨⟨rfl, rfl, tCounters (by decide +kernel), by decide +kernel, by decide +kernel, rfl, by decide +kernel,
      by unfold atMostOne; decide +kernel, by decide +kernel⟩,
    ⟨rfl, rfl, tCounters (by decide +kernel), by decide +kernel, by decide +kernel, rfl, by decide +kernel,
      by unfold atMostOne; decide +kernel, by decide +kernel⟩,
    by decide +kernel, by decide +kernel, by decide +kernel⟩

/-- The attempt that the collider sends. -/
def tAttempt : Attempt := ⟨frameBytes 0x44 2 7 [1, 1, 0, 0, 0], 5, .keep⟩

/-- R3: a CONTENDED bit anywhere in the frame is a mismatch, the whole frame read back has none, and a row whose bits do
not fit changes nothing; the part finds the mismatch that it is shown, and two stations find theirs in one bit time. -/
theorem test_w_CollisionDrawsABackoff_read_back :
    (tCollider 8).sendingEntry = some (0, { tSending .ask [1, 1, 0, 0, 0] tAttempt.frame 5 with attempts := 8 }, tAttempt) ∧
    (∀ k : Nat, k < 120 → tAttempt.mismatchAt (tBreak (tCollider 8) k) k) ∧
    (∀ k : Nat, ¬ tAttempt.mismatchAt (tWhole (tCollider 8)) k) ∧
    (let s := tCollider 8
     ∀ c ∈ [Instr.collision (tWhole s), .collision (tBreak s 30), .lateCollision (tBreak s 29), .lateCollision (tWhole s),
         .transmissionSuccess (tBreak s 119), .transmissionSuccess ((tWhole s).drop 1)], after c s = s) ∧
    (tAttempt.mismatch ((tWhole (tCollider 8)).take 13 ++ [.zero]), tAttempt.levels[13]?) = (some 13, some .one) ∧
    (let one := frameBytes 0x44 2 7 []
     let other := frameBytes 0x44 3 9 [1]
     let line := List.zipWith (fun x y => lineReading [x, y]) (lineBits one) (lineBits other)
     (firstMismatch (lineBits one) line, firstMismatch (lineBits other) line) = (some 21, some 21)) := by
  have sends : (tCollider 8).sendingEntry =
      some (0, { tSending .ask [1, 1, 0, 0, 0] tAttempt.frame 5 with attempts := 8 }, tAttempt) := by decide +kernel
  have whole : tWhole (tCollider 8) = lineBits tAttempt.frame := by simp [tWhole, sends, Attempt.levels]
  exact ⟨sends, fun k h => tBroken sends h, fun k h => h.2.2.2 (by rw [whole]), by decide +kernel, by decide +kernel,
    by decide +kernel⟩

/-- R3: what a station drives before, in and after an attempt, and in ISOLATED. -/
theorem test_w_AttemptTakesTheHighestClassFirstArrived_driven :
    ((tStation 2).line.sending = false ∧ (tStation 2).driven = none ∧ (tStation 2).readBack [.zero] = .zero) ∧
    ((after .transmitAttemptStart (tQueue (tStation 2) [TxEntry.fresh .mark [] none])).driven = some .zero) ∧
    ((tCollider 8).driven = tAttempt.levels[5]? ∧ (tCollider 8).driven = some .zero ∧
      (tCollider 8).readBack [.one] = .contended ∧ (tCollider 8).readBack [.zero] = .zero) ∧
    ((tQueue (tStation 2) [tSending .ask [1, 1, 0, 0, 0] tAttempt.frame 120]).driven = none) ∧
    (({ tStation 2 with mode := .isolated } : State).driven = none ∧
      ({ tStation 2 with mode := .isolated } : State).QueueSound) := by
  refine ⟨by decide +kernel, by decide +kernel, by decide +kernel, by decide +kernel, by decide +kernel, ?_⟩
  unfold State.QueueSound atMostOne
  decide +kernel

theorem test_w_IsolationBeginsAndEnds :
    let score (n : Nat) (s : State) : State := s.modLine fun l => { l with isoScore := n }
    let isolated (n : Nat) : State :=
      ({ tStation 2 with mode := .isolated }).modLine fun l => { l with isoCount := n, isoTimer := some 250000 }
    (∀ x ∈ [(Instr.isolationEntry, score 4 (tStation 2)), (.collision (tBreak (tCollider 9) 0), score 3 (tCollider 9)),
        (.lateCollision (tBreak (tCollider 0) 30), score 3 (tCollider 0)), 
        (.lateCollision (tBreak (tMet .remove) 30), score 3 (tMet (.replace [9] (some 4000)))),
        (.lateCollision (tBreak (tMet .remove) 30), score 3 (tMet .remove))],
      x.2.resetHeld = false ∧ x.2.mode = .joined ∧ (after x.1 x.2).mode = .isolated ∧
        (after x.1 x.2).line.isoTimer = some 250000) ∧
    (∀ s ∈ [isolated 0, isolated 6, isolated 7, isolated 8],
      s.resetHeld = false ∧ s.mode = .isolated ∧ s.line.isoTimer = some 250000) ∧
    (after .isolationPeriodExpiry (isolated 6)).line.isoCount = 7 ∧
    (after .isolationPeriodExpiry (isolated 7)).mode = .listening ∧
    (after .isolationEnd (isolated 8)).mode = .listening := by decide +kernel

/-- A platform with a fallback ask PENDING in ask entry 0 and another ask in entry 1, both in its queue. -/
def tPending : State :=
  ((tZone [tZoneEntry 47 .entry, { tZoneEntry 0 .exit with fallback := .pending .doorOpen 0 }]).modAsks fun a =>
    { a with
      entries :=
        [⟨.queued, .fallback, .doorOpen, 1, 0, 0, 0, none, none⟩, ⟨.queued, .tap, .doorOpen, 1, 0, 1, 0, none, none⟩] ++
          List.replicate 2 AskEntry.blank }).modLine fun l =>
    { l with
      queue :=
        [{ TxEntry.fresh .ask [1, 1, 0, 0, 0] none with attempts := 10 }, TxEntry.fresh .ask [1, 1, 1, 0, 0] none,
          TxEntry.fresh .info [5] none] }

/-- The ask entries, the fallbacks of the zone, the PHASE fault and the frames dropped. -/
def tLeft (t : State) : List AskState × List Fallback × Bool × Nat :=
  (t.asks.entries.map AskEntry.state, t.platform.zone.map ZoneEntry.fallback, t.platform.phaseFault, t.counter .txDrops)

/-- R20, R28, R121: the excess discard of a fallback ASK and of a MARK. -/
theorem test_w_FailedFrameLeavesTheQueue_asks_and_marks :
    (let t := after .excessAttemptsDiscard tPending
     tPending.settings.attemptLimit ≤ 10 ∧ tPending.askOfBody [1, 1, 0, 0, 0] = some 0 ∧
       tLeft t = ([.failed, .queued, .free, .free], [.unused, .used], true, 0) ∧
       t.line.queue =
         [TxEntry.fresh .ask [1, 1, 1, 0, 0] none, TxEntry.fresh .info [5] none,
           TxEntry.fresh .essential (noticeBody .zoneFault (some 0) 3 1) none]) ∧
    (let s := tQueue (tStation 2) [{ TxEntry.fresh .mark [7] none with attempts := 10 }, TxEntry.fresh .info [5] none]
     s.settings.attemptLimit ≤ 10 ∧
       (after .excessAttemptsDiscard s).line.queue = [TxEntry.fresh .info [5] none, TxEntry.fresh .mark [] none]) := by
  decide +kernel

/-- R15, R121, R158: a locked-out and an isolated platform drop an ASK each of two origins. -/
theorem test_w_LeavingJoinedDropsTheAsks :
    tPending.AsksSound ∧
    (let bits := tBits 0x52 0 7 [4, 0, 0, 0]
     (tAt bits tPending).mode = .joined ∧ (tAt bits tPending).asks = tPending.asks ∧
       (tFrame 0x52 0 7 [4, 0, 0, 0]).sender.toNat = tPending.station ∧
       tLeft (after (.frameReception bits) tPending) =
         ([.failed, .failed, .free, .free], [.unused, .used], true, 3)) ∧
    (let s := tPending.modLine fun l => { l with isoScore := 4 }
     s.mode = .joined ∧ tLeft (after .isolationEntry s) =
       ([.failed, .failed, .free, .free], [.unused, .used], true, 3)) := by
  refine ⟨?_, ?_, ?_⟩
  · unfold State.AsksSound; decide +kernel
  all_goals decide +kernel

/-- R60: each state of a drive that is locked out, and the state and brake check it leaves. -/
theorem test_w_LeavingJoinedStopsTheDrive :
    ∀ x ∈ [(DriveState.braked, false, DriveState.braked), (.releasing, false, .braked), (.moving, false, .stopping),
        (.moving, true, .braked), (.stopping, false, .stopping), (.faulted, false, .faulted)],
      let s := { (tStation 2).modDrive fun d => { d with state := x.1 } with fi := if x.2.1 then 2 else 0 }
      s.role = .drive ∧ s.mode = .joined ∧
        (after (.frameReception (tBits 0x52 2 7 [4, 0, 0, 0])) s).drive.state = x.2.2 := by decide +kernel

theorem test_w_SuccessfulFrameLeavesTheQueue :
    (let s := tCollider 0
     s.resetHeld = false ∧ s.mode = .joined ∧ s.CountersSound ∧ (s.sendingEntry).isSome = true ∧
       s.line.markWaiting = false ∧ (after (.transmissionSuccess (tWhole s)) s).line.queue = []) ∧
    (let s := tQueue ((tStation 2).modRound fun r => { r with published := some ⟨⟨0, 0, .drive, [0, 0, 0, 1]⟩, false, 7⟩ })
       [tSending .state [0] (frameBytes 0x23 2 7 [0]) 0]
     s.resetHeld = false ∧ s.mode = .joined ∧ s.CountersSound ∧
       (s.sendingEntry).map (fun x => x.2.1.cls) = some .state ∧ s.line.markWaiting = false ∧
       (s.round.published).map Published.round = some s.round.number ∧ s.round.firstMark = false ∧
       (after (.transmissionSuccess (tWhole s)) s).round.current.slot 2 = some ⟨⟨0, 0, .drive, [0, 0, 0, 1]⟩, false⟩) ∧
    (let sent := (tCollider 0).modCapture fun c => { c with on := true }
     ((after (.transmissionSuccess (tWhole sent)) sent).capture.slots[0]?).map (fun x => (x.capture.own, x.capture.header)) =
       some (true, 0x44)) ∧
    (∀ x ∈ [((63 : Byte), some (some 63), false), (64, some none, true)],
      let s := tQueue ((tStation 1).modRound fun r =>
          { r with published := some ⟨⟨2, 0, .cabin, [0, 6, 3, x.1, 0x0F, 0xA0, 1]⟩, false, 7⟩ })
        [tSending .state [0] (frameBytes 0x23 1 7 [0]) 0]
      s.role = .cabin ∧ s.cabinIndex = some 0 ∧ (s.sendingEntry).map (fun y => y.2.1.cls) = some .state ∧
        (s.round.published).map Published.round = some s.round.number ∧ s.round.firstMark = false ∧
        some ((after (.transmissionSuccess (tWhole s)) s).record 0).occupancy = x.2.1 ∧
        (after (.transmissionSuccess (tWhole s)) s).flag .format = x.2.2) ∧
    (tStation 1).TablesSound :=
  ⟨⟨rfl, rfl, tCounters (by decide +kernel), by decide +kernel, rfl, by decide +kernel⟩,
    ⟨rfl, rfl, tCounters (by decide +kernel), by decide +kernel, rfl, by decide +kernel, rfl, by decide +kernel⟩,
    by decide +kernel, by decide +kernel, by unfold State.TablesSound; decide +kernel⟩

/-- R28: a MARK waits while the eight places are taken; the frame sent leaves one of them. -/
theorem test_w_SuccessfulFrameLeavesTheQueue_mark_waits :
    let kept := List.replicate 7 (TxEntry.fresh .essential [1] none)
    let s := (tQueue (tStation 2) ((tCollider 0).line.queue ++ kept)).modLine fun l => { l with markWaiting := true }
    s.resetHeld = false ∧ s.mode = .joined ∧ (s.sendingEntry).map (fun x => x.2.1.cls) = some .ask ∧
      s.line.queue.length = 8 ∧ (∀ x ∈ s.line.queue, x.cls ≠ .mark) ∧
      (after (.transmissionSuccess (tWhole s)) s).line.queue = kept ++ [TxEntry.fresh .mark [] none] ∧
      (after (.transmissionSuccess (tWhole s)) s).line.markWaiting = false := by decide +kernel

theorem test_w_EveryStepKeepsTheQueueSound : (tCollider 9).QueueSound ∧
    ∃ t, step { tCollider 9 with pending := [.collision (tBreak (tCollider 9) 3)] } = .next t :=
  ⟨by unfold State.QueueSound atMostOne; decide +kernel, ⟨_, rfl⟩⟩

/-! ### Rounds and the roster -/

/-- The same station with another current side. -/
def tHeard (s : State) (slots : List (Nat × HeardState)) : State :=
  s.modRound fun r =>
    { r with current := ⟨r.current.round, slots.foldl (fun l x => l.set x.1 (some x.2)) r.current.slots⟩ }

/-- Every expected station voted CRUISE when it was last heard. -/
def tRunning (n : Nat) : State :=
  (tStation n).modRoster fun r =>
    r.map fun e => if e.role = .absent then e else { e with last := some ⟨Level.cruise.code, 0, e.role, []⟩ }

/-- Round counts of a listening station. -/
def tListening (marks : Nat) (returning : Bool) (n : Nat) : State :=
  ((({ tStation n with mode := .listening }).modRound fun r => { r with marksTaken := marks, firstMark := true }).modLine
    fun l => { l with returning := returning }).writeWorking

theorem test_w_TakenMarkOpensItsRound : ∀ s ∈ [tStation 4, tListening 0 false 4,
      ((tStation 4).modRound fun r => { r with timer := 125000, number := 3 }).writeWorking],
    s.takesMark (tMark s) (tAtMark s) 8 (some tMarkBody) ∧ s.FollowersSound := by
  intro s h
  simp only [List.mem_cons, List.not_mem_nil, or_false] at h
  rcases h with rfl | rfl | rfl <;>
    exact ⟨tTaken (by decide +kernel), by unfold State.FollowersSound; decide +kernel⟩

/-- R31: a number that does not follow sets ROUND_JUMP, but for the first mark. -/
theorem test_round_jump :
    let jumped := (tStation 4).modRound fun r => { r with number := 3 }
    (after (tMark jumped) jumped).flag .roundJump = true ∧ (after (tMark jumped) jumped).round.number = 8 ∧
      (after (tMark (tStation 4)) (tStation 4)).flag .roundJump = false ∧
      (after (tMark (tListening 0 false 4)) (tListening 0 false 4)).flag .roundJump = false := by decide +kernel

/-- R22, R31: the own MARK sent is taken. -/
theorem test_w_own_mark :
    (tMarking (tStation 2)).takesMark (.transmissionSuccess (lineBits tOwnMark))
      ((tMarking (tStation 2)).elapse (10 * tOwnMark.length - 10)) ((tMarking (tStation 2)).round.number + 1) none ∧
    (after (.transmissionSuccess (lineBits tOwnMark)) (tMarking (tStation 2))).round.number = 8 :=
  ⟨tOwnTaken (by decide +kernel), by decide +kernel⟩

/-- A MARK's time before the round timer stands at `time`, in a mode, with an isolation count. -/
def tBefore (time : Nat) (mode : Mode) (count : Nat) : State :=
  (({ tStation 4 with mode := mode }).modRound fun r => { r with timer := time - (12 + 110 + 12) }).modLine fun l =>
    { l with isoCount := count, isoTimer := if mode = Mode.isolated then some 200000 else none }

/-- The modes and isolation counts in which a MARK may be discarded, with the mode and the count after it. -/
def tDiscards : List (Mode × Nat × Mode × Nat) :=
  [(.joined, 0, .joined, 0), (.isolated, 6, .isolated, 7), (.isolated, 7, .listening, 8)]

theorem test_w_RanklessOrEarlyMarkIsDiscarded :
    (∀ x ∈ tDiscards, tAccepts (tBefore 125000 x.1 x.2.1) 0x11 1 8 tMarkBody = true ∧
      ((tBefore 125000 x.1 x.2.1).entryAt 1).rank = none ∧
      (let t := after (.frameReception (tBits 0x11 1 8 tMarkBody)) (tBefore 125000 x.1 x.2.1)
       t.flag .stranger = true ∧ (t.mode, t.line.isoCount) = x.2.2 ∧
         t.line.isoTimer = if t.mode = .isolated then some 250000 else none)) ∧
    (∀ x ∈ tDiscards, tAccepts (tBefore 124999 x.1 x.2.1) 0x11 3 8 tMarkBody = true ∧
      ((tBefore 124999 x.1 x.2.1).entryAt 3).rank ≠ none ∧ (tBefore 124999 x.1 x.2.1).round.firstMark = false ∧
      (tAt (tBits 0x11 3 8 tMarkBody) (tBefore 124999 x.1 x.2.1)).round.timer = 124999 ∧
      (let t := after (.frameReception (tBits 0x11 3 8 tMarkBody)) (tBefore 124999 x.1 x.2.1)
       t.flag .earlyMark = true ∧ (t.mode, t.line.isoCount) = x.2.2)) ∧
    ((tBefore 124999 .isolated 7).atFrameEnd (tBits 0x11 3 8 tMarkBody)
        (tAt (tBits 0x11 3 8 tMarkBody) (tBefore 124999 .isolated 7)) ∧
      (tFrame 0x11 3 8 tMarkBody).acceptedBy (tBits 0x11 3 8 tMarkBody)
        (tAt (tBits 0x11 3 8 tMarkBody) (tBefore 124999 .isolated 7))) ∧
    (tFrame 0x11 3 8 tMarkBody).header = classHeader .mark ∧ (tBefore 124999 .isolated 7).CountersSound ∧
    (∀ x ∈ tDiscards, tTakes (tBefore 125000 x.1 x.2.1) = true ∧
      (let t := after (tMark (tBefore 125000 x.1 x.2.1)) (tBefore 125000 x.1 x.2.1)
       t.round.number = 8 ∧ (t.mode, t.line.isoCount) = x.2.2)) ∧
    (tBefore 125000 .isolated 7).takesMark (tMark (tBefore 125000 .isolated 7)) (tAtMark (tBefore 125000 .isolated 7)) 8
      (some tMarkBody) :=
  ⟨by decide +kernel, by decide +kernel, tDelivered (by decide +kernel), rfl, tCounters (by decide +kernel),
    by decide +kernel, tTaken (by decide +kernel)⟩

/-- A CABIN STATE of station 5 (cabin 47): phase READY, marker CLOSE, 63 aboard, 4000 kg, latched. -/
def tCabinBody (index occupancy : Byte) : List Byte :=
  [2, 0, 0, 0, 1, index, 6, 3, occupancy, 0x0F, 0xA0, 1]

theorem test_w_DeliveredStateIsEntered :
    (∀ x ∈ [(tStation 4, (7 : Byte)), (tStation 4, 6), (tListening 0 false 4, 0)],
      tAccepts x.1 0x23 5 x.2 (tCabinBody 47 63) = true) ∧
    (let bits := tBits 0x23 5 7 (tCabinBody 47 63)
     (tStation 4).atFrameEnd bits (tAt bits (tStation 4)) ∧
       (tFrame 0x23 5 7 (tCabinBody 47 63)).acceptedBy bits (tAt bits (tStation 4))) ∧
    (tStation 4).CountersSound ∧ (tStation 4).TablesSound ∧ ((tStation 4).entryAt 5).cabin = some 47 ∧
    ((after (.frameReception (tBits 0x23 5 7 (tCabinBody 47 63))) (tStation 4)).record 47).occupancy = some 63 ∧
    ((after (.frameReception (tBits 0x23 5 7 (tCabinBody 47 0xFF))) (tStation 4)).record 47).occupancy = none ∧
    (after (.frameReception (tBits 0x23 5 7 (tCabinBody 46 63))) (tStation 4)).flag .stranger = true ∧
    (after (.frameReception (tBits 0x23 5 7 (tCabinBody 47 64))) (tStation 4)).flag .format = true ∧
    (after (.frameReception (tBits 0x23 5 6 (tCabinBody 47 63))) (tStation 4)).counter .stale = 1 ∧
    ((after (.frameReception (tBits 0x23 5 7 (tCabinBody 46 64))) (tStation 4)).flag .stranger = true ∧
      (after (.frameReception (tBits 0x23 5 7 (tCabinBody 46 64))) (tStation 4)).flag .format = false) :=
  ⟨by decide +kernel, tDelivered (by decide +kernel), tCounters (by decide +kernel),
    by unfold State.TablesSound; decide +kernel, by decide +kernel, by decide +kernel, by decide +kernel,
    by decide +kernel, by decide +kernel, by decide +kernel, by decide +kernel⟩

/-- Station 1 stands at silent count 2, station 2 is SILENT, station 3 was heard, station 5 not for the first time. -/
def tQuiet : State :=
  (((tHeard (tStation 4) [(3, ⟨⟨2, 0, .mast, [0, 255, 255, 255, 255, 0]⟩, false⟩)]).modEntry 1 fun e =>
    { e with silentCount := 2 }).modEntry 2 fun e => { e with silentCount := 15, silent := true }).writeWorking

theorem test_w_SwapBringsTheRosterUpToDate :
    tQuiet.takesMark (tMark tQuiet) (tAtMark tQuiet) 8 (some tMarkBody) ∧ tQuiet.TablesSound ∧ tQuiet.SettingsSound ∧
    tQuiet.FollowersSound ∧
    (let t := after (tMark tQuiet) tQuiet
     (t.entryAt 1).silent = true ∧ (t.entryAt 2).silentCount = 15 ∧ (t.entryAt 3).silentCount = 0 ∧
       (t.entryAt 5).silentCount = 1 ∧ t.flag .stationSilent = true) ∧
    (let s := (tStation 4).modEntry 63 fun _ => { tEntry .drive none none with silentCount := 3 }
     s.running ∧ s.TablesSound ∧ (s.entryAt 63).role ≠ .absent ∧
       s.settings.silenceLimit ≤ (s.entryAt 63).silentCount ∧ (s.entryAt 63).silent = false ∧
       ((after (.stationSilentEntry 63) s).entryAt 63).silent = true) :=
  ⟨tTaken (by decide +kernel), by unfold State.TablesSound; decide +kernel,
    by unfold State.SettingsSound; decide +kernel, by unfold State.FollowersSound; decide +kernel, by decide +kernel,
    ⟨rfl, rfl⟩, by unfold State.TablesSound; decide +kernel, by decide +kernel, by decide +kernel, by decide +kernel,
    by decide +kernel⟩

theorem test_w_StationsJoinAndFound :
    (∀ s ∈ [tListening 0 false 4, tListening 1 false 4, tListening 0 true 4],
      s.mode = .listening ∧ tTakes s = true) ∧
    (tListening 1 false 4).takesMark (tMark (tListening 1 false 4)) (tAtMark (tListening 1 false 4)) 8 (some tMarkBody) ∧
    (after (tMark (tListening 0 false 4)) (tListening 0 false 4)).mode = .listening ∧
    (after (tMark (tListening 1 false 4)) (tListening 1 false 4)).mode = .joined ∧
    (after (tMark (tListening 0 true 4)) (tListening 0 true 4)).mode = .joined ∧
    (∀ s ∈ [tListening 2 false 4, tListening 1 true 4],
      s.resetHeld = false ∧ s.mode = .listening ∧
        (s.round.marksTaken = 2 ∨ s.round.marksTaken = 1 ∧ s.line.returning = true) ∧
        (after .join s).mode = .joined) ∧
    ((tListening 0 false 3).resetHeld = false ∧ (tListening 0 false 3).rank = some 7 ∧
      (tListening 0 false 3).line.queue = [] ∧
      (after .founding (tListening 0 false 3)).line.queue = [TxEntry.fresh .mark [] none]) :=
  ⟨by decide +kernel, tTaken (by decide +kernel), by decide +kernel, by decide +kernel, by decide +kernel,
    by decide +kernel, by decide +kernel⟩

/-- Entries of other classes, one of them backed off: what a mark leaves of any queue. -/
def tStays : List TxEntry :=
  [{ TxEntry.fresh .ask [1, 1, 0, 0, 0] none with attempts := 3, backoff := some 9000 }, TxEntry.fresh .info [1] none]

theorem test_w_QueueAtAMark_of_every_class : ∀ n ∈ [0, 1, 2, 3, 4],
    (let s := tQueue (tStation n) (TxEntry.fresh .state [0] none :: tStays)
     s.mode = .joined ∧ s.platform.zone = [] ∧ s.platform.rebuildPending = false ∧
       ((tAtMark s).line.queue.filter fun x => x.cls != .state && x.cls != .mark) = tStays.map (TxEntry.elapse 134) ∧
       ((after (tMark s) s).line.queue.take 2, (after (tMark s) s).line.queue.length,
         (after (tMark s) s).counter .stateLate) = (tStays.map (TxEntry.elapse 134), 3, 1)) := by decide +kernel

theorem test_w_QueueAtAMark : ∀ s ∈ [tQueue (tStation 3) [TxEntry.fresh .state [0] none, TxEntry.fresh .mark [] none],
      tQueue (tStation 4) []],
    s.takesMark (tMark s) (tAtMark s) 8 (some tMarkBody) ∧ s.mode = .joined ∧ s.CountersSound ∧ s.QueueSound ∧
      s.platform.zone = [] ∧ (after (tMark s) s).line.queue.length = 1 := by
  intro s h
  simp only [List.mem_cons, List.not_mem_nil, or_false] at h
  rcases h with rfl | rfl <;>
    exact ⟨tTaken (by decide +kernel), rfl, tCounters (by decide +kernel),
      by unfold State.QueueSound atMostOne; decide +kernel, rfl, by decide +kernel⟩

/-- A PLATFORM whose zone and rebuild add to a full queue: an INFO NOTICE may go, no other entry does. -/
theorem test_w_QueueAtAMark_keeps_the_rest :
    let kept := List.replicate 7 (TxEntry.fresh .essential [1] none)
    let s := tQueue (tStation 0) (TxEntry.fresh .info [2] none :: kept)
    let p := s.modPlatform fun p => { p with watch := [], rebuildPending := true }
    tTakes p = true ∧ (after (tMark p) p).line.queue.map TxEntry.cls = List.replicate 7 .essential ++ [.state] ∧
      (after (tMark p) p).counter .txDrops = 1 := by decide +kernel

/-- R28: no MARK waits on from a mark, nor where the round loss takes a STATE away. -/
theorem test_w_QueueAtAMark_mark_waits :
    let kept := List.replicate 7 (TxEntry.fresh .essential [1] none)
    let waits (s : State) : State :=
      (tQueue s (TxEntry.fresh .state [0] none :: kept)).modLine fun l => { l with markWaiting := true }
    let s := waits (tStation 4)
    let lost := waits ((tStation 3).modRound fun r => { r with timer := 500000 })
    (tTakes s = true ∧ s.mode = .joined ∧ (after (tMark s) s).line.markWaiting = false ∧
      (after (tMark s) s).capture.congested = false) ∧
    (lost.resetHeld = false ∧ lost.mode = .joined ∧ lost.round.roundLost = false ∧ lost.line.queue.length = 8 ∧
      (∀ x ∈ lost.line.queue, x.cls ≠ .mark ∧ (x.cls = .state → x.attempt = none)) ∧
      (after .roundLoss lost).line.queue = kept ++ [TxEntry.fresh .mark [] none] ∧
      (after .roundLoss lost).line.markWaiting = false) := by decide +kernel

theorem test_w_QueueAtAMark_mark_waits_sound :
    let s := (tQueue (tStation 4) (TxEntry.fresh .state [0] none :: List.replicate 7 (TxEntry.fresh .essential [1] none))).modLine
      fun l => { l with markWaiting := true }
    s.CountersSound ∧ s.QueueSound :=
  ⟨tCounters (by decide +kernel), by unfold State.QueueSound atMostOne; decide +kernel⟩

theorem test_w_RoundTimerReachesItsThresholds :
    (let s := (tStation 3).modRound fun r => { r with timer := 124999 }
     s.resetHeld = false ∧ s.CountersSound ∧ s.mode.receiving = true ∧ s.round.firstMark = false ∧
       s.round.timer < s.settings.periodTime / 2 ∧ (after .earlyMarkWindowEnd s).round.timer = 125000) ∧
    (let s := (tStation 3).modRound fun r => { r with timer := 285000 }
     s.mode = .joined ∧ s.rank = some 7 ∧ s.round.markOffered = false ∧
       s.round.timer ≤ s.settings.periodTime + ms (5 * 7) ∧ s.line.queue.length < 8 ∧
       (∀ x ∈ s.line.queue, x.cls ≠ .mark) ∧ (after .markOfferTime s).line.queue.length = 1) ∧
    (let s := tQueue ((tStation 3).modRound fun r => { r with timer := 500000 }) [TxEntry.fresh .state [0] none]
     s.round.roundLost = false ∧ s.role ≠ .drive ∧ s.line.markWaiting = false ∧
       s.round.timer ≤ 2 * s.settings.periodTime ∧ (∀ x ∈ s.line.queue, x.attempt = none) ∧
       (after .roundLoss s).line.queue = [] ∧ (after .roundLoss s).counter .stateLate = 1) ∧
    (let s := (tMet .keep).modRound fun r => { r with timer := 500000 }
     s.resetHeld = false ∧ s.mode = .joined ∧ s.round.roundLost = false ∧
       (s.sendingEntry).map (fun y => (y.1, y.2.1.cls)) = some (0, .state) ∧
       ((after .roundLoss s).line.queue.map fun x => x.attempt.map Attempt.after) = [some .remove, none] ∧
       (after .roundLoss s).counter .stateLate = 0) ∧
    (∀ d ∈ [DriveState.braked, .releasing, .moving, .stopping, .faulted],
      let s := (tStation 2).modDrive fun x => { x with state := d }
      s.resetHeld = false ∧ s.mode = .joined ∧ s.round.roundLost = false ∧ s.role = .drive) ∧
    (∀ d ∈ [DriveState.braked, .releasing, .moving, .stopping, .faulted],
      ((tStation 2).modDrive fun x => { x with state := d }).DriveSound) := by
  refine ⟨⟨rfl, tCounters (by decide +kernel), ?_⟩, ?_, ?_, ?_, ?_, ?_⟩
  iterate 5 decide +kernel
  unfold State.DriveSound
  decide +kernel

theorem test_w_GatesAndOwnStateFollow : (tStation 0).FollowersSound ∧
    ∃ t, step { tStation 0 with pending := [.keyStop] } = .next t :=
  ⟨by unfold State.FollowersSound; decide +kernel, ⟨_, rfl⟩⟩

/-! ### Motion agreement and the drives -/

/-- R46, R48, at the boundary codes and at each row of the table. -/
theorem test_w_AgreedLevelIsTheMostRestrictiveVote :
    let g := Settings.default
    let quiet (silent : Bool) (vote : Byte) : RosterEntry :=
      { tEntry .cabin (some 0) none with silent := silent, last := some ⟨vote, 1, .cabin, []⟩ }
    effectiveVote g (some ⟨⟨0, 1, .cabin, []⟩, false⟩) (quiet true 2) = ⟨.stop, .heard, 1⟩ ∧
    effectiveVote g none (tEntry .cabin (some 0) none) = ⟨.creep, .silence, 0⟩ ∧
    effectiveVote g none (quiet false 2) = ⟨.cruise, .last, 1⟩ ∧
    effectiveVote g none (quiet true 1) = ⟨.creep, .last, 1⟩ ∧
    effectiveVote g none (quiet true 2) = ⟨.creep, .silence, 0⟩ ∧
    judgeVote .cabin 3 = .cruise ∧ judgeVote .console 3 = .noLimit ∧ judgeVote .cabin 4 = .stop ∧
    (∀ s ∈ [tStation 4, tRunning 4, tListening 0 false 4], tTakes s = true) ∧
    (tRunning 4).takesMark (tMark (tRunning 4)) (tAtMark (tRunning 4)) 8 (some tMarkBody) ∧
    (after (tMark (tRunning 4)) (tRunning 4)).agreement.level = .cruise ∧
    (after (tMark (tStation 4)) (tStation 4)).agreement.level = .stop ∧
    (after (tMark (tStation 4)) (tStation 4)).agreement.holders.map Holder.station = [0, 2, 3] := by
  refine ⟨?_, ?_, ?_, ?_, ?_, ?_, ?_, ?_, ?_, tTaken (by decide +kernel), ?_, ?_, ?_⟩
  all_goals decide +kernel

/-- A DRIVE STATE with a target code. -/
def tTarget (target : Byte) : HeardState := ⟨⟨2, 0, .drive, [0, target, 0, 1]⟩, false⟩

/-- A station whose agreed level and replica differ from what the mark computes. -/
def tDiverging : State :=
  ((tStation 2).modAgreement fun a => { a with level := .creep }).modReplica fun r =>
    { r with records := r.records.set 0 CabinRecord.unused }

/-- A station that has heard two others with the named target frames. -/
def tSkewed (a b : Byte) : State := tHeard (tStation 2) [(2, tTarget a), (63, tTarget b)]

theorem test_w_MarksAreComparedAndSkewIsFound :
    (∀ s ∈ [tStation 2, tDiverging, tSkewed 1 2, tSkewed 4 4, tSkewed 2 2, tListening 0 false 2],
      tTakes s = true ∧ s.round.working = s.ownStatement) ∧
    (tStation 2).takesMark (tMark (tStation 2)) (tAtMark (tStation 2)) 8 (some tMarkBody) ∧ (tStation 2).FollowersSound ∧
    (tStation 2).TablesSound := by
  refine ⟨?_, tTaken (by decide +kernel), ?_, ?_⟩
  · decide +kernel
  · unfold State.FollowersSound; decide +kernel
  · unfold State.TablesSound; decide +kernel

theorem test_w_MarksAreCompared_agrees :
    ((after (tMark (tStation 2)) (tStation 2)).flag .agreeDiverge = false) ∧
    ((after (tMark (tStation 2)) (tStation 2)).flag .replicaDiverge = false) := by decide +kernel

theorem test_w_MarksAreCompared_diverges :
    ((after (tMark tDiverging) tDiverging).flag .agreeDiverge = true) ∧
    ((after (tMark tDiverging) tDiverging).flag .replicaDiverge = true) := by decide +kernel

theorem test_w_SkewIsFound_far : (after (tMark (tSkewed 1 2)) (tSkewed 1 2)).flag .skew = true := by decide +kernel

theorem test_w_SkewIsFound_farther : (after (tMark (tSkewed 4 4)) (tSkewed 4 4)).flag .skew = true := by decide +kernel

theorem test_w_SkewIsFound_near : (after (tMark (tSkewed 2 2)) (tSkewed 2 2)).flag .skew = false := by decide +kernel

theorem test_w_SkewIsFound_nearer : (after (tMark (tSkewed 3 3)) (tSkewed 3 3)).flag .skew = false := by decide +kernel

/-- A DRIVE station in one of its states, with a release confirm count; the wheel runs or does not. -/
def tDrive (runs : Bool) (state : DriveState) (confirm : Nat) (inputs : BitVec 24) : State :=
  { (if runs then tRunning 2 else tStation 2).modDrive fun d => { d with state := state, confirm := confirm } with
    fi := inputs }

/-- The states DriveFollowsTheMark tells apart, with the drive state each leads to. -/
def tDrives : List (State × DriveState) :=
  [(tDrive false .braked 1 0, .braked), (tDrive true .braked 0 0, .braked), (tDrive true .braked 1 0, .releasing),
    (tDrive true .braked 1 1, .moving), (tDrive false .releasing 0 0, .braked), (tDrive true .releasing 0 0, .releasing),
    (tDrive true .moving 0 0, .moving), (tDrive false .moving 0 2, .braked), (tDrive false .moving 0 0, .stopping),
    (tDrive true .stopping 0 0, .stopping), (tDrive true .faulted 0 0, .faulted)]

theorem test_w_DriveFollowsTheMark : ∀ x ∈ tDrives,
    x.1.takesMark (tMark x.1) (tAtMark x.1) 8 (some tMarkBody) ∧ x.1.role = .drive ∧ 0 < x.1.settings.releaseConfirm ∧
      (after (tMark x.1) x.1).drive.state = x.2 := fun x h =>
  have a := (by decide +kernel : ∀ x ∈ tDrives, tTakes x.1 = true ∧ x.1.role = .drive ∧
    0 < x.1.settings.releaseConfirm ∧ (after (tMark x.1) x.1).drive.state = x.2) x h
  ⟨tTaken a.1, a.2⟩

/-- A command and a DRIVE station in which it is a fault cause. -/
def tCauses : List (Instr × State) :=
  let drive (f : Drive → Drive) : State := (tStation 2).modDrive f
  [(.driveFaultActive, tStation 2), (.driveFaultActive, drive fun d => { d with state := .faulted, reasons := Reason.brake.mask }),
    (.releaseTimerExpiry, drive fun d => { d with state := .releasing, releaseTimer := some (sec 2) }),
    (.stopTimerExpiry, drive fun d => { d with state := .stopping, stopTimer := some (sec 20) }),
    (.brakeReleasedInactive, { drive (fun d => { d with state := .moving }) with fi := 1 }),
    (.brakeCheckTimerExpiry, { drive (fun d => { d with brakeCheckTimer := some (sec 2) }) with fi := 1 })]

theorem test_w_FaultCauseFaultsTheDrive :
    (∀ x ∈ tCauses, (x.2.resetHeld = false ∧ x.2.mode.receiving = true) ∧ x.2.role = .drive ∧
      (after x.1 x.2).drive.state = .faulted) ∧
    (∀ x ∈ tCauses, x.2.DriveSound) ∧ (tStation 2).hasRoom :=
  ⟨by decide +kernel, by unfold State.DriveSound; decide +kernel, by unfold State.hasRoom; decide +kernel⟩

/-- A command, its input line and level, and a DRIVE station whose input holds the other level. -/
def tDriveInputs : List (Instr × Nat × Bool × State) :=
  let at_ (d : DriveState) (inputs : BitVec 24) : State := tDrive true d 0 inputs
  [(.driveFaultInactive, 2, false, at_ .faulted 6), (.brakeReleasedActive, 0, true, at_ .releasing 0),
    (.brakeReleasedActive, 0, true, at_ .braked 0), (.brakeReleasedInactive, 0, false, at_ .stopping 1),
    (.stationaryActive, 1, true, at_ .stopping 0), (.stationaryActive, 1, true, at_ .faulted 0),
    (.stationaryInactive, 1, false, at_ .faulted 2), (.stationaryInactive, 1, false, at_ .braked 2)]

theorem test_w_InputsAndTimersMoveTheDrive :
    (∀ x ∈ tDriveInputs, (x.2.2.2.resetHeld = false ∧ x.2.2.2.mode.receiving = true) ∧ x.2.2.2.role = .drive ∧
      x.2.2.2.input x.2.1 = !x.2.2.1 ∧ (after x.1 x.2.2.2).input x.2.1 = x.2.2.1) ∧
    (∀ x ∈ tDriveInputs, x.2.2.2.DriveSound) ∧
    (after .brakeReleasedActive (tDrive true .releasing 0 0)).drive.state = .moving ∧
    (after .stationaryActive (tDrive true .stopping 0 0)).drive.state = .braked ∧
    (after .stationaryActive (tDrive true .faulted 0 0)).drive.faultClearTimer = some (sec 5) ∧
    (let s := tDrive true .braked 2 0
     s.resetHeld = false ∧ s.role = .drive ∧ s.DriveSound ∧ s.settings.releaseConfirm ≤ s.drive.confirm ∧
       (after .releaseConfirmed s).drive.state = .releasing) ∧
    (let s := (tDrive true .faulted 0 2).modDrive fun d => { d with faultClearTimer := some (sec 5) }
     s.DriveSound ∧ s.drive.faultClearTimer = some (sec 5) ∧
       (after .faultClearTimerExpiry s).drive.state = .braked) := by
  refine ⟨?_, ?_, ?_, ?_, ?_, ⟨rfl, by decide +kernel, ?_, by decide +kernel, by decide +kernel⟩, ?_, rfl, ?_⟩ <;>
    (try unfold State.DriveSound) <;> decide +kernel

/-- R54, R64, R80, R95, R124, R140, R171: what each role shows. -/
theorem test_w_OutputsAndVotesFollowTheState :
    tLoading.sinking = 0 ∧ (tDrive true .moving 0 0).sinking = 1 ∧ (tStation 2).sinking = 0 ∧
    ((tStation 1).modCabin fun c => { c with phase := .opening, action := .openMove }).sinking = 5 ∧
    (let both := ((tStation 1).modCabin fun c => { c with phase := .overloaded, departPending := true }).ownStatement
     both.vote = 0 ∧ both.reasons = Reason.overload.mask ||| Reason.departUnready.mask) ∧
    ((tStation 1).modCabin fun c => { c with phase := .closing, action := .closeMove }).ownStatement.vote = 1 ∧
    (tStation 1).ownStatement.vote = 2 ∧ (tStation 2).ownStatement.vote = 2 ∧
    ((tStation 2).modDrive fun d => { d with skewFound := true }).ownStatement.reasons = Reason.skew.mask ∧
    ((tStation 0).modPlatform fun p => { p with stopFlag := true }).ownStatement.reasons = Reason.operatorStop.mask ∧
    ((tStation 3).modWind fun w => { w with stage := .clear }).ownStatement.vote = 1 ∧
    (tStation 3).ownStatement.reasons = Reason.windHold.mask ∧ (tStation 4).ownStatement.vote = 3 ∧
    ((tStation 4).modConsole fun _ => ⟨false, true⟩).ownStatement.vote = 1 := by decide +kernel

theorem test_w_EveryStepKeepsTheDriveAndTheAgreement :
    (tDrive true .moving 0 0).AgreementSound ∧ (tDrive true .stopping 0 0).DriveSound ∧
    ∃ t, step { tDrive true .stopping 0 0 with pending := [.stationaryActive] } = .next t :=
  ⟨by unfold State.AgreementSound; decide +kernel, by unfold State.DriveSound; decide +kernel, ⟨_, rfl⟩⟩

/-! ### The Cabin Replica -/

theorem test_w_ReplicaReadsAndAges :
    let s := tStation 4
    let silent := s.modEntry 5 fun e => { e with silent := true }
    s.TablesSound ∧ s.takesMark (tMark s) (tAtMark s) 8 (some tMarkBody) ∧ (s.record 1).owner = none ∧
    s.readOccupancy (s.record 1) = some 0 ∧
    ((silent.record 47).owner = some 5 ∧ (silent.entryAt 5).silent = true ∧ silent.readOccupancy (silent.record 47) = none) ∧
    ((s.record 0).owner = some 1 ∧ (s.entryAt 1).silent = false ∧ (s.record 0).lastRound ≠ none) ∧
    (CabinRecord.start 1).lastRound = none ∧ s.occupiedCount = 2 ∧
    ((tLoading.record 47).owner = none ∧ tLoading.mode.receiving = false ∧ tLoading.aged (tLoading.record 47) = true ∧
      tLoading.readOccupancy (tLoading.record 47) = none) ∧
    ((after (tMark s) s).record 47).freshness = 1 ∧ ((after (tMark s) s).record 46).freshness = 0 ∧
    (let old := s.modReplica fun r => { r with records := r.records.map fun x => { x with freshness := 255 } }
     old.takesMark (tMark old) (tAtMark old) 8 (some tMarkBody) ∧ ((after (tMark old) old).record 0).freshness = 255) := by
  refine ⟨?_, tTaken (by decide +kernel), ?_, ?_, ?_, ?_, ?_, ?_, ?_, ?_, ?_, tTaken (by decide +kernel), ?_⟩
  · unfold State.TablesSound; decide +kernel
  all_goals decide +kernel

/-! ### Cabin stations -/

/-- Unfolds what is asked of a cabin. -/
theorem tCabinSound {s : State} (h : actionFits s.cabin.phase s.cabin.action) (a : s.cabin.attempts ≤ 3)
    (b : s.cabin.action = .recloseWait → s.cabin.attempts ≤ 2)
    (c : (s.cabin.openLimit ≠ none → s.cabin.action = .openMove ∨ s.cabin.action = .reverse) ∧
      (s.cabin.closeLimit ≠ none → s.cabin.action = .closeMove) ∧
      (s.cabin.latchLimit ≠ none → s.cabin.action = .latchWait) ∧
      (s.cabin.recloseDelay ≠ none → s.cabin.action = .recloseWait) ∧
      (s.cabin.weighLimit ≠ none → s.cabin.phase = .weighing) ∧ (s.cabin.awaiting = true → s.cabin.phase = .weighing) ∧
      (s.cabin.dwell = true → s.cabin.phase = .opening ∨ s.cabin.phase = .opened) ∧
      (s.cabin.dwellTimer ≠ none → s.cabin.dwell = true) ∧ (s.mode.receiving = false → s.cabin = Cabin.reset)) :
    s.CabinSound := ⟨h, a, b, c⟩

/-- A cabin station in a phase and door action. -/
def tCabin (phase : Phase) (action : DoorAction) (attempts : Nat) (inputs : BitVec 24) : State :=
  { (tStation 1).modCabin fun c => { c with phase := phase, action := action, attempts := attempts } with fi := inputs }

/-- A cabin that awaits its weighing. -/
def tWeighing : State :=
  (tCabin .weighing .idle 1 6).modCabin fun c => { c with awaiting := true, weighLimit := some (sec 3) }

/-- A position notice for cabin 0 from the platform. -/
def tNotice (kind : NoticeKind) (value : Byte) : Instr := .frameReception (tBits 0x35 0 7 [kind.code, 0, 0, value, 0, 0])

theorem test_w_PositionNoticesMoveTheCabin :
    (let bits := tBits 0x35 0 7 [1, 0, 0, 0, 0, 0]
     (tStation 1).atFrameEnd bits (tAt bits (tStation 1)) ∧
       (tFrame 0x35 0 7 [1, 0, 0, 0, 0, 0]).acceptedBy bits (tAt bits (tStation 1))) ∧
    (let bits := tBits 0x36 0 7 [1, 0, 0, 0, 0, 0]
     ((tStation 1).atFrameEnd bits (tAt bits (tStation 1)) ∧
       (tFrame 0x36 0 7 [1, 0, 0, 0, 0, 0]).acceptedBy bits (tAt bits (tStation 1))) ∧
       (after (.frameReception bits) (tStation 1)).cabin.phase = .opening) ∧
    (tStation 1).role = .cabin ∧ (tStation 1).CabinSound ∧ (tStation 1).hasRoom ∧
    (∀ kind ∈ [NoticeKind.arrive, .turn, .close, .depart],
      tAccepts (tStation 1) 0x35 0 7 [kind.code, 0, 0, 0, 0, 0] = true) ∧
    tAccepts (tStation 1) 0x35 0 7 [1, 47, 0, 0, 0, 0] = true ∧ tAccepts (tStation 1) 0x35 2 7 [1, 0, 0, 0, 0, 0] = true ∧
    (after (tNotice .arrive 1) (tStation 1)).cabin.phase = .opening ∧
    (after (tNotice .arrive 2) (tStation 1)).cabin.phase = .passing ∧
    (after (tNotice .arrive 0) (tCabin .closing .closeMove 1 0)).cabin.phase = .closing ∧
    (after (tNotice .turn 0) (tStation 1)).cabin.marker = .turn ∧
    (after (tNotice .close 63) (tCabin .opened .idle 0 0)).cabin.occupancy = some 63 ∧
    (after (tNotice .close 64) (tCabin .opened .idle 0 0)).cabin.occupancy = none ∧
    (after (tNotice .close 63) (tCabin .opened .idle 0 0)).cabin.action = .closeMove ∧
    (after (tNotice .depart 0) (tCabin .ready .idle 1 6)).cabin.phase = .away ∧
    (after (tNotice .depart 0) (tCabin .opened .idle 0 0)).cabin.departPending = true := by
  refine ⟨tDelivered (by decide +kernel), ⟨tDelivered (by decide +kernel), by decide +kernel⟩, by decide +kernel,
    ⟨rfl, by decide +kernel⟩, ?_, ?_, ?_, ?_, ?_, ?_, ?_, ?_, ?_, ?_, ?_, ?_, ?_⟩
  · unfold State.hasRoom; decide +kernel
  all_goals decide +kernel

/-- An integrating converter. -/
def tIntegrating (s : State) : State :=
  s.modConv fun c => { c with phase := .integrating, timer := some (ms 160), record := some ⟨7, .positive, false, .load, 3⟩ }

/-- R92: a notice or an ask that begins an opening or a close restarts the converter, and no other does. -/
theorem test_w_PositionNoticesMoveTheCabin_converter :
    (∀ x ∈ [(tNotice .arrive 1, tStation 1), (tNotice .close 63, tCabin .opened .idle 0 0),
        (.frameReception (tBits 0x44 4 7 [1, AskKind.doorOpen.code, 15, 0, 0]), tCabin .ready .idle 1 6),
        (.frameReception (tBits 0x44 4 7 [1, AskKind.doorClose.code, 15, 0, 0]), tCabin .doorFault .idle 0 0)],
      let s := tIntegrating x.2
      (after x.1 s).conv = { s.conv with phase := .zeroing, timer := some (ms 80), integrator := 0, deint := 0, polarity := none }) ∧
    (∀ x ∈ [(tNotice .arrive 2, tStation 1), (tNotice .turn 0, tStation 1), (tNotice .close 63, tStation 1),
        (tNotice .depart 0, tCabin .ready .idle 1 6),
        (.frameReception (tBits 0x44 4 7 [1, AskKind.doorOpen.code, 15, 0, 0]), tCabin .opened .idle 0 1),
        (.frameReception (tBits 0x44 4 7 [1, AskKind.doorClose.code, 15, 0, 0]), tCabin .closing .closeMove 1 0)],
      let s := tIntegrating x.2
      (after x.1 s).conv.phase = .integrating ∧ (after x.1 s).conv.record = s.conv.record) := by decide +kernel

/-- A command, the line and the level of its input, the cabin it finds, and the phase it leads to. -/
def tDoors : List (Instr × Nat × Bool × State × Phase) :=
  [(.openEndActive true, 0, true, tCabin .opening .openMove 0 0, .opened),
    (.openEndActive true, 0, true, tCabin .closing .reverse 2 0, .closing),
    (.openEndActive true, 0, true, tCabin .closing .reverse 3 0, .doorFault),
    (.openEndActive true, 0, true, tCabin .away .idle 0 0, .away),
    (.openEndActive false, 0, false, tCabin .opened .idle 0 1, .opened),
    (.closedEndActive, 1, true, tCabin .closing .closeMove 1 0, .closing),
    (.closedEndActive, 1, true, tCabin .closing .closeMove 1 4, .weighing),
    (.closedEndInactive, 1, false, tCabin .away .idle 0 6, .away),
    (.latchedActive, 2, true, tCabin .closing .latchWait 1 2, .weighing),
    (.latchedActive, 2, true, tCabin .opened .idle 1 0, .opened),
    (.latchedInactive, 2, false, tCabin .ready .idle 1 6, .doorFault),
    (.latchedInactive, 2, false, tCabin .opening .openMove 0 6, .opening),
    (.obstructionActive true, 3, true, tCabin .closing .closeMove 1 0, .closing),
    (.obstructionActive true, 3, true, tCabin .closing .closeMove 2 1, .closing),
    (.obstructionActive true, 3, true, tCabin .closing .closeMove 3 1, .doorFault),
    (.obstructionActive false, 3, false, tCabin .opened .idle 0 8, .opened)]

theorem test_w_DoorInputsMoveTheDoor :
    (∀ x ∈ tDoors, (x.2.2.2.1.resetHeld = false ∧ x.2.2.2.1.mode.receiving = true) ∧ x.2.2.2.1.role = .cabin ∧
      x.2.2.2.1.input x.2.1 = !x.2.2.1 ∧ (after x.1 x.2.2.2.1).cabin.phase = x.2.2.2.2) ∧
    (tCabin .opening .openMove 0 0).CabinSound ∧ (tCabin .closing .reverse 3 0).CabinSound ∧
    (tCabin .closing .closeMove 3 1).CabinSound ∧ (tCabin .closing .latchWait 1 2).CabinSound ∧
    (tCabin .ready .idle 1 6).CabinSound ∧ (tCabin .closing .recloseWait 2 1).CabinSound :=
  ⟨by decide +kernel, ⟨rfl, by decide +kernel⟩, ⟨.inr (.inr (.inl rfl)), by decide +kernel⟩,
    ⟨.inl rfl, by decide +kernel⟩, ⟨.inr (.inl rfl), by decide +kernel⟩, ⟨rfl, by decide +kernel⟩,
    ⟨.inr (.inr (.inr rfl)), by decide +kernel⟩⟩

/-- A timer's command, the cabin in which it runs, and the phase it leads to. -/
def tCabinTimers : List (Instr × State × Phase) :=
  [(.openLimitExpiry, (tCabin .opening .openMove 0 0).modCabin fun c => { c with openLimit := some 5 }, .doorFault),
    (.closeLimitExpiry, (tCabin .closing .closeMove 1 0).modCabin fun c => { c with closeLimit := some 5 }, .doorFault),
    (.latchLimitExpiry, (tCabin .closing .latchWait 1 2).modCabin fun c => { c with latchLimit := some 5 }, .doorFault),
    (.recloseDelayExpiry, (tCabin .closing .recloseWait 2 8).modCabin fun c => { c with recloseDelay := some 5 }, .closing),
    (.recloseDelayExpiry, (tCabin .closing .recloseWait 2 6).modCabin fun c => { c with recloseDelay := some 5 }, .weighing),
    (.weighingLimitExpiry, tWeighing, .overloaded),
    (.dwellTimerExpiry, (tCabin .opened .idle 0 1).modCabin fun c => { c with dwell := true, dwellTimer := some 5 },
      .opened)]

theorem test_w_CabinTimersCallsAndCounts :
    (∀ x ∈ tCabinTimers, x.2.1.resetHeld = false ∧ (after x.1 x.2.1).cabin.phase = x.2.2) ∧
    (∀ x ∈ tCabinTimers, x.2.1.CabinSound) ∧
    ((tStation 1).role = .cabin ∧ (tStation 1).running ∧ (tStation 1).hasRoom ∧
      (after .callKeyActive (tStation 1)).line.queue.length = 1) ∧
    (∀ x ∈ [(tCabin .away .idle 0 6, false), (tCabin .opened .idle 0 0, true)],
      let s := x.1.modCabin fun c => { c with departPending := true, departCounting := true, departCount := 2 }
      s.resetHeld = false ∧ s.cabin.departCounting = true ∧ s.cabin.departCount = 2 ∧
        (after .departMarkCountEnd s).cabin.departPending = x.2) ∧
    (let s (n : Nat) := (tCabin .passing .idle 0 6).modCabin fun c =>
       { c with departPending := true, departCounting := true, departCount := n }
     (s 0).takesMark (tMark (s 0)) (tAtMark (s 0)) 8 (some tMarkBody) ∧ (s 1).takesMark (tMark (s 1)) (tAtMark (s 1)) 8 (some tMarkBody) ∧
       (after (tMark (s 0)) (s 0)).cabin.departCount = 1 ∧ (after (tMark (s 1)) (s 1)).cabin.departPending = false) := by
  refine ⟨by decide +kernel, ?_, ⟨by decide +kernel, ⟨rfl, rfl⟩, ?_, by decide +kernel⟩, by decide +kernel,
    tTaken (by decide +kernel), tTaken (by decide +kernel), by decide +kernel, by decide +kernel⟩
  · simp only [tCabinTimers, List.forall_mem_cons, List.not_mem_nil, false_implies, implies_true, and_true]
    exact ⟨⟨rfl, by decide +kernel⟩, ⟨.inl rfl, by decide +kernel⟩, ⟨.inr (.inl rfl), by decide +kernel⟩,
      ⟨.inr (.inr (.inr rfl)), by decide +kernel⟩, ⟨.inr (.inr (.inr rfl)), by decide +kernel⟩, ⟨rfl, by decide +kernel⟩,
      ⟨rfl, by decide +kernel⟩⟩
  · unfold State.hasRoom; decide +kernel

/-- A LOAD result. -/
def tLoad (count : Nat) (p : Polarity) (high : Bool) : Result := ⟨count, p, high, .load, 1⟩

/-- R93: the limit of 2400 kg, 10 kg below zero, and an overrange. -/
theorem test_w_WeighingIsJudged :
    tWeighing.CabinSound ∧ tWeighing.cabin.phase = .weighing ∧ tWeighing.cabin.awaiting = true ∧ tWeighing.hasRoom ∧
    tWeighing.line.queue.length < 7 ∧ (tStation 1).cabin.phase ≠ .weighing ∧
    (∀ x ∈ [(tLoad 9603 .positive false, Phase.ready, some 2400), (tLoad 9604 .positive false, .overloaded, some 2401),
        (tLoad 43 .negative false, .ready, some 0), (tLoad 44 .negative false, .overloaded, none),
        (tLoad 16000 .positive true, .overloaded, none)],
      (tWeighing.deliverLoad x.1).cabin.phase = x.2.1 ∧ (tWeighing.deliverLoad x.1).cabin.load = x.2.2) ∧
    ((tWeighing.modCabin fun c => { c with departPending := true }).deliverLoad (tLoad 4 .positive false)).cabin.phase =
      .away ∧
    ((tWeighing.modCabin fun c => { c with occupancy := some 10 }).deliverLoad (tLoad 160 .positive false)).line.queue.length
      = 2 := by
  refine ⟨⟨rfl, by decide +kernel⟩, rfl, rfl, ?_, ?_, ?_, ?_, ?_, ?_⟩
  · unfold State.hasRoom; decide +kernel
  all_goals decide +kernel

/-- An ask kind, the cabin it reaches, and the outcome and reason of the answer. -/
def tCabinAsks : List (AskKind × State × Byte × Byte) :=
  let late (s : State) : State := s.modCabin fun c => { c with marker := .close }
  let running (s : State) : State := s.modAgreement fun a => { a with level := .cruise }
  [(.doorOpen, tCabin .away .idle 0 6, 1, 1), (.doorOpen, tCabin .opened .idle 0 1, 0, 0),
    (.doorOpen, tCabin .ready .idle 1 6, 0, 0), (.doorOpen, late (tCabin .ready .idle 1 6), 0, 0),
    (.doorOpen, running (late (tCabin .ready .idle 1 6)), 1, 2), (.doorClose, tCabin .doorFault .idle 0 0, 0, 0),
    (.doorClose, tCabin .closing .closeMove 1 0, 0, 0), (.doorClose, tCabin .ready .idle 1 6, 1, 3),
    (.dwell, tCabin .opened .idle 0 1, 0, 0), (.dwell, late (tCabin .opened .idle 0 1), 1, 2),
    (.dwellEnd, (tCabin .opened .idle 0 1).modCabin fun c => { c with dwell := true }, 0, 0),
    (.dwellEnd, tCabin .opened .idle 0 1, 1, 3), (.windResume, tCabin .away .idle 0 6, 1, 5)]

theorem test_w_CabinAnswersItsAsks :
    (let bits := tBits 0x44 4 7 [1, 1, 15, 0, 0]
     (tCabin .ready .idle 1 6).atFrameEnd bits (tAt bits (tCabin .ready .idle 1 6)) ∧
       (tFrame 0x44 4 7 [1, 1, 15, 0, 0]).acceptedBy bits (tAt bits (tCabin .ready .idle 1 6))) ∧
    (∀ code ∈ [(0 : Byte), 9, 5], tAccepts (tStation 1) 0x44 4 7 [1, code, 15, 0, 0] = true ∧
      (after (.frameReception (tBits 0x44 4 7 [1, code, 15, 0, 0])) (tStation 1)).line.queue =
        [TxEntry.fresh .reply [4, 15, 1, 5] none]) ∧
    (∀ target ∈ [(0 : Byte), 5, 64], tAccepts (tStation 1) 0x44 4 7 [target, 1, 15, 0, 0] = true ∧
      (after (.frameReception (tBits 0x44 4 7 [target, 1, 15, 0, 0])) (tStation 1)).line.queue = []) ∧
    (tCabin .ready .idle 1 6).role = .cabin ∧ (tCabin .ready .idle 1 6).CabinSound ∧
    (byteAt [1, 1, 15, 0, 0] 0 : Byte) = BitVec.ofNat 8 (tCabin .ready .idle 1 6).station ∧
    (tCabin .ready .idle 1 6).hasRoom ∧
    (∀ x ∈ tCabinAsks, tAccepts x.2.1 0x44 4 7 [1, x.1.code, 15, 0, 0] = true ∧
      (after (.frameReception (tBits 0x44 4 7 [1, x.1.code, 15, 0, 0])) x.2.1).line.queue =
        [TxEntry.fresh .reply [4, 15, x.2.2.1, x.2.2.2] none]) := by
  refine ⟨tDelivered (by decide +kernel), ?_, ?_, ?_, ⟨rfl, by decide +kernel⟩, ?_, ?_, ?_⟩
  · decide +kernel
  · decide +kernel
  · decide +kernel
  · decide +kernel
  · unfold State.hasRoom; decide +kernel
  · decide +kernel

theorem test_w_EveryStepKeepsTheCabin : tWeighing.CabinSound ∧
    ∃ t, step { tWeighing with pending := [.latchedInactive] } = .next t := ⟨⟨rfl, by decide +kernel⟩, ⟨_, rfl⟩⟩

/-! ### The boarding platform -/

/-- The first notice a platform has queued: its kind, cabin, and values. -/
def tSays (c : Instr) (s : State) : Option (List Byte) := ((after c s).line.queue.head?).map TxEntry.body

theorem test_w_MarkersMoveTheZone :
    (tStation 0).running ∧ (tStation 0).role = .platform ∧ (tStation 0).hasRoom ∧
    (tStation 0).platform.rebuildPending = false ∧
    ((tStation 0).modPlatform fun p => { p with rebuildPending := true }).platform.rebuildPending = true ∧
    (tSays (.mkArrive 47 false) (tStation 0) = some [9, 0xFF, 0, 2, 0, 255]) ∧
    (tSays (.mkArrive 48 true) (tStation 0) = some [9, 0xFF, 0, 2, 0, 48]) ∧
    (tSays (.mkArrive 46 true) (tStation 0) = some [9, 0xFF, 0, 2, 0, 46]) ∧
    ((tStation 0).ownerOf 47 = some 5 ∧ tSays (.mkArrive 47 true) (tStation 0) = some [1, 47, 0, 1, 0, 255]) ∧
    (tSays (.mkArrive 47 true) (tZone [tZoneEntry 47 .exit]) = some [9, 47, 0, 1, 0, 1]) ∧
    (tSays .mkTurn (tStation 0) = some [9, 0xFF, 0, 1, 0, 2]) ∧
    (tSays .mkTurn (tZone [tZoneEntry 0 .entry, tZoneEntry 47 .exit]) = some [2, 47, 0, 0, 0, 0]) ∧
    (tSays .mkClose (tStation 0) = some [9, 0xFF, 0, 1, 0, 3]) ∧
    (tSays .mkClose (tZone [tZoneEntry 0 .entry]) = some [3, 0, 0, 63, 0, 0]) ∧
    ((after .mkClose (tZone [{ tZoneEntry 0 .entry with boarded := 6 }])).line.queue.map TxEntry.body =
      [[3, 0, 0, 63, 0, 0], [12, 0, 0, 63, 0, 60]]) ∧
    (tSays .mkDepart (tZone [tZoneEntry 0 .entry]) = some [9, 0xFF, 0, 1, 0, 4]) ∧
    (tSays .mkDepart (tZone [tZoneEntry 0 .closing, tZoneEntry 47 .exit]) = some [4, 0, 0, 0, 0, 0]) ∧
    (after .mkDepart (tZone [tZoneEntry 0 .closing])).platform.watch = [⟨0, 0, false⟩] := by
  refine ⟨⟨rfl, rfl⟩, ?_, ?_, ?_⟩
  · decide +kernel
  · unfold State.hasRoom; decide +kernel
  · decide +kernel

/-- R113, R125: no crossing is counted while rebuild pending is set. -/
theorem test_w_BeamsCountAndGatesAreWatched_rebuild : ∀ beam ∈ [Beam.exitOut, .exitIn, .entryIn, .entryOut],
    let s := (tZone [tZoneEntry 0 .exit]).modPlatform fun p => { p with rebuildPending := true }
    s.role = .platform ∧ s.resetHeld = false ∧ s.mode = .joined ∧ (∀ n ∈ [11, 12, 13, 14], s.filterPassed n = true) ∧
      (after (.beamCrossing beam) s).platform = s.platform := by decide +kernel

theorem test_w_BeamsCountAndGatesAreWatched :
    (tStation 0).role = .platform ∧ (tStation 0).running ∧ (tStation 0).platform.rebuildPending = false ∧
    (tStation 0).FollowersSound ∧
    (∀ x ∈ [(Beam.exitOut, 3, 5), (.exitIn, 1, 5), (.entryIn, 2, 5), (.entryOut, 2, 5)],
      (after (.beamCrossing x.1) (tZone [tZoneEntry 0 .exit])).platform.zone.map
        (fun e => (e.alighted, e.boarded)) = [(x.2.1, x.2.2)]) ∧
    ((after (.beamCrossing .entryIn) (tZone [{ tZoneEntry 0 .entry with boarded := 63 }])).platform.zone.map
      ZoneEntry.boarded = [63]) ∧
    (∀ g ∈ [GateId.exit, .entry],
      let fault (t : Option Nat) (f : Bool) : State :=
        ((tStation 0).modPlatform fun p => { p with exitGate := ⟨false, f, t⟩, entryGate := ⟨false, f, t⟩ }).writeWorking
      (tStation 0).input (if g = .exit then 15 else 16) = !false ∧
        (after (.gatePositionChange g false) (tStation 0)).platform.gate g = ⟨false, false, some (sec 3)⟩ ∧
        (after (.gatePositionChange g false) (fault none true)).platform.gate g = ⟨false, true, none⟩ ∧
        (after (.gatePositionChange g true) { fault none true with fi := 0 }).platform.gate g = ⟨false, false, none⟩ ∧
        ((fault (some (sec 3)) false).platform.gate g).timer = some (sec 3) ∧
        (after (.gateTravelExpiry g) (fault (some (sec 3)) false)).platform.gate g = ⟨false, true, none⟩) := by
  refine ⟨by decide +kernel, ⟨rfl, rfl⟩, rfl, ?_, ?_⟩
  · unfold State.FollowersSound; decide +kernel
  · decide +kernel

theorem test_w_GatesBoardingAndPhasesByTheTables :
    let opened (n : Nat) (s : State) : State :=
      s.modReplica fun r => { r with records := r.records.set n { CabinRecord.start 1 with phase := .opened, lastRound := some 7 } }
    let board (s : State) : State := s.modPlatform fun p => { p with boardingOpen := true }
    (opened 0 (tZone [tZoneEntry 0 .exit])).exitGateWanted = true ∧
    (opened 0 (tZone [{ tZoneEntry 0 .exit with mode := .pass }])).exitGateWanted = false ∧
    (board (opened 0 (tZone [{ tZoneEntry 0 .entry with aboard := some 21 }]))).entryGateWanted = true ∧
    (board (opened 0 (tZone [{ tZoneEntry 0 .entry with aboard := some 22 }]))).entryGateWanted = false ∧
    (tStation 0).windBars = true ∧ (tStation 0).unloadingRun = false ∧
    ((tStation 0).modEntry 3 fun e => { e with last := some ⟨2, 0, .mast, [1, 0, 0, 0, 0, 0]⟩ }).windBars = false ∧
    ((tStation 0).modEntry 3 fun e => { e with last := some ⟨1, 0, .mast, [3, 0, 0, 0, 0, 0]⟩ }).unloadingRun = true ∧
    ((tStation 0).modEntry 4 fun e => { e with last := some ⟨1, 0, .console, [2]⟩ }).unloadingRun = true ∧
    (tZoneEntry 0 .closing).matching .ready = true ∧ (tZoneEntry 0 .closing).fallbackFor .opened = some .doorClose ∧
    (tZoneEntry 0 .exit).matching .closing = false ∧ (tZoneEntry 0 .exit).fallbackFor .closing = some .doorOpen := by
  decide +kernel

/-- Both gates as the steps leave them: the exit gate open, and the entry gate at the last free place and at none. -/
theorem test_w_GateCommandsFollow :
    let station (n : Nat) : State :=
      (((tZone [{ tZoneEntry 47 .entry with aboard := some n }, tZoneEntry 0 .exit]).modReplica fun r =>
        { r with records := r.records.map fun x => { x with phase := .opened } }).modPlatform fun p =>
          { p with boardingOpen := true }).settle
    ((station 21).role = .platform ∧ (station 21).FollowersSound ∧
      (station 21).platform.exitGate.commandOpen = true ∧ (station 21).platform.entryGate.commandOpen = true) ∧
    ((station 22).FollowersSound ∧ (station 22).platform.entryGate.commandOpen = false) := by
  unfold State.FollowersSound
  decide +kernel

/-- A console in its three uses, a platform's keys with and without an ENTRY cabin. -/
theorem test_w_OperatorKeysAct :
    (tStation 0).running ∧ (tStation 0).role = .platform ∧ (tStation 0).hasRoom ∧ (tStation 4).running ∧
    (tStation 4).role = .console ∧
    (after .keyStop (tStation 0)).platform.stopFlag = true ∧
    (after .keyResume (after .keyStop (tStation 0))).platform.stopFlag = false ∧
    (after .keyBoardOpen (tStation 0)).platform.boardingState = true ∧
    (after .keyBoardShut (after .keyBoardOpen (tStation 0))).platform.boardingState = false ∧
    (after .keyZoneClear (tZone [tZoneEntry 0 .entry])).platform.zone = [] ∧
    (after .keyDwell (tStation 0)).flag .noTarget = true ∧
    ((tZoneEntry 0 .entry).owner ≠ (tZone []).station ∧ (tStation 0).roleAt (tZoneEntry 0 .entry).owner ≠ .absent ∧
      (tStation 0).asks.entries.findIdx? (fun x => x.state == .free) = some 0) ∧
    ((after .keyDwellEnd (tZone [tZoneEntry 0 .entry])).line.queue.map TxEntry.body = [[1, 4, 0, 0, 0]]) ∧
    (after .consoleKeyStop (tStation 4)).console = ⟨true, false⟩ ∧
    (after .consoleKeyResume (after .consoleKeyStop (tStation 4))).console = ⟨false, false⟩ ∧
    (after .keyEvac (tStation 4)).console = ⟨false, true⟩ ∧
    (after .keyEvacEnd (after .keyEvac (tStation 4))).console = ⟨false, false⟩ := by
  refine ⟨⟨rfl, rfl⟩, ?_, ?_, ⟨rfl, rfl⟩, ?_⟩
  · decide +kernel
  · unfold State.hasRoom; decide +kernel
  · decide +kernel

/-- A platform before a mark: a cabin in its watch, one entry unsettled and one not matching. -/
def tBusy (rebuild : Bool) : State :=
  (tZone [{ tZoneEntry 0 .entry with mismatch := 1 }, { tZoneEntry 47 .exit with settle := true }]).modPlatform fun p =>
    { p with watch := [⟨46, 1, false⟩], rebuildPending := rebuild, boardingState := true }

/-- A cabin record with a phase and a last marker. -/
def tShown (owner : Nat) (phase : Phase) (marker : Marker) : CabinRecord :=
  { CabinRecord.start owner with phase := phase, marker := marker }

theorem test_w_PlatformWorksAtTheMark :
    let rebuilt (m : Marker) := (tBusy true).modReplica fun r =>
      { r with records := (r.records.set 0 (tShown 1 .ready .close)).set 47 (tShown 5 .opened m) }
    (∀ s ∈ [tBusy false, rebuilt .turn, rebuilt .close], tTakes s = true ∧ s.role = .platform ∧ s.station = 0) ∧
    (tBusy false).takesMark (tMark (tBusy false)) (tAtMark (tBusy false)) 8 (some tMarkBody) ∧ (tBusy false).ZoneSound ∧
    (tBusy false).TablesSound ∧ ((tBusy false).platform.zone.map ZoneEntry.owner).Nodup ∧
    (let t := after (tMark (tBusy false)) (tBusy false)
     t.platform.zone.map (fun e => (e.settle, e.mismatch)) = [(false, 2), (false, 0)] ∧
       t.platform.zone.map ZoneEntry.fallback = [.pending .doorOpen 0, .unused]) ∧
    (let t := after (tMark (rebuilt .turn)) (rebuilt .turn)
     t.platform.zone.map (fun e => (e.cabin, e.segment)) = [(0, .closing), (47, .entry)] ∧
       t.platform.rebuildPending = false) ∧
    (let t := after (tMark (rebuilt .close)) (rebuilt .close)
     t.platform.zone = [] ∧ t.platform.orderFault = true ∧ (rebuilt .close).line.queue.length < 4 ∧
       TxEntry.fresh .essential (noticeBody .zoneFault none 1 5) none ∈ t.line.queue) := by
  refine ⟨?_, tTaken (by decide +kernel), ?_, ?_, ?_, ?_, ?_, ?_⟩
  · decide +kernel
  · unfold State.ZoneSound; decide +kernel
  · unfold State.TablesSound; decide +kernel
  all_goals decide +kernel

/-- A zone entry whose fallback is to be chosen. -/
def tChoice (f : Fallback) : State := tZone [{ tZoneEntry 0 .exit with mismatch := 2, fallback := f, choiceDue := true }]

/-- The platform as a mark finds it: one CLOSING entry of cabin 0, which shows the phase, with its mismatch count and
fallback, the PHASE fault, and the states of the ask entries. -/
def tFaced (phase : Phase) (settle : Bool) (mismatch : Nat) (f : Fallback) (fault : Bool) (asks : List AskState) :
    State :=
  (((tZone [{ tZoneEntry 0 .closing with settle := settle, mismatch := mismatch, fallback := f }]).modPlatform fun p =>
    { p with phaseFault := fault }).modReplica fun r =>
      { r with records := r.records.set 0 { CabinRecord.start 1 with phase := phase, lastRound := some 7 } }).modAsks
    fun a => { a with entries := asks.map fun x => { AskEntry.blank with state := x } }

/-- A platform before a mark, and the fallback and the PHASE fault after it. -/
def tFaces : List (State × Fallback × Bool) :=
  let free := List.replicate 4 AskState.free
  let full := List.replicate 4 AskState.queued
  [(tFaced .ready false 2 .used true free, .used, false), (tFaced .ready false 0 .due true free, .unused, false),
    (tFaced .ready true 0 .due true free, .due, true), (tFaced .opened false 0 .unused true free, .unused, true),
    (tFaced .opened false 1 .unused false free, .pending .doorClose 0, false),
    (tFaced .opened false 1 .unused false [.queued, .failed, .free, .free], .pending .doorClose 1, false),
    (tFaced .opened false 1 .unused false full, .due, false), (tFaced .opened false 2 .due false full, .due, false),
    (tFaced .opened false 2 .due false free, .pending .doorClose 0, false),
    (tFaced .opened false 2 .unused false free, .unused, false), (tFaced .opened false 1 .used false free, .used, true),
    (tFaced .opened false 1 (.pending .doorClose 3) false full, .pending .doorClose 3, false),
    (tFaced .away false 1 .due true free, .unused, true), (tFaced .away false 1 .unused false free, .unused, false)]

theorem test_w_PlatformWorksAtTheMark_fallbacks :
    (∀ x ∈ tFaces, tTakes x.1 = true ∧ x.1.role = .platform ∧ x.1.platform.phaseFresh = false ∧
      x.1.asks.entries.length = 4 ∧ (∀ a ∈ x.1.asks.entries, ¬ (a.origin = .fallback ∧ a.state = .waiting ∧ 1 ≤ a.marks)) ∧
      x.1.platform.zone.map ZoneEntry.owner = [1] ∧ x.1.roleAt 1 = .cabin ∧ x.1.station = 0) ∧
    (∀ x ∈ tFaces, ((after (tMark x.1) x.1).platform.zone.map ZoneEntry.fallback,
      (after (tMark x.1) x.1).platform.phaseFault) = ([x.2.1], x.2.2)) := by decide +kernel

theorem test_w_FallbackAsksAndUnreadyCabins :
    (∀ f ∈ [Fallback.unused, .due, .pending .doorOpen 3, .used],
      (tChoice f).resetHeld = false ∧ (tChoice f).mode = .joined ∧ (tChoice f).role = .platform ∧
        (tChoice f).platform.zone.map (fun e => (e.choiceDue, e.fallbackFor ((tChoice f).record 0).phase)) =
          [(true, some .doorOpen)]) ∧
    (tChoice .due).hasRoom ∧
    (after (.fallbackAsk 0) (tChoice .unused)).platform.zone.map ZoneEntry.fallback = [.pending .doorOpen 0] ∧
    (let full := (tChoice .unused).modAsks fun a => { a with entries := a.entries.map fun e => { e with state := .queued } }
     full.asks.entries.findIdx? (fun x => x.state == .free) = none ∧
       (after (.fallbackAsk 0) full).platform.zone.map ZoneEntry.fallback = [.due]) ∧
    (after (.fallbackAsk 0) (tChoice .used)).platform.phaseFault = true ∧
    (let s := (tStation 0).modPlatform fun p => { p with watch := [⟨47, 2, false⟩] }
     s.running ∧ s.role = .platform ∧ ⟨47, 2, false⟩ ∈ s.platform.watch ∧
       (after (.departureUnready 47) s).platform.watch = [⟨47, 2, true⟩]) := by
  refine ⟨?_, ?_, ?_, ?_, ?_, ⟨rfl, rfl⟩, ?_⟩
  · decide +kernel
  · unfold State.hasRoom; decide +kernel
  all_goals decide +kernel

/-! ### Wind watch -/

/-- The mast at a tick, its wind part changed. -/
def tMast (f : Wind → Wind) : State := (tStation 3).modWind f

/-- A WIND result. -/
def tWind (count : Nat) (p : Polarity) (high : Bool) : Result := ⟨count, p, high, .wind, 1⟩

/-- What the tick finds, and the last sample, miss count and sensor fault it leaves. -/
def tTicks : List (State × Option Nat × Nat × Bool) :=
  [(tMast id, none, 1, false), (tMast fun w => { w with last := some 7, miss := 2 }, some 7, 3, true),
    (tMast fun w => { w with pending := some (tWind 2000 .positive true) }, some 500, 0, true),
    (tMast fun w => { w with pending := some (tWind 3 .negative false) }, some 0, 0, false),
    (tMast fun w => { w with pending := some (tWind 4 .negative false), last := some 9 }, some 9, 0, true),
    (tMast fun w => { w with pending := some (tWind 1999 .positive false) }, some 499, 0, false),
    (tMast fun w => { w with pending := some (tWind 40 .positive false), sensorFault := true, good := 10 }, some 10, 0, true),
    (tMast fun w => { w with pending := some (tWind 40 .positive false), sensorFault := true, good := 11 }, some 10, 0,
      false)]

theorem tWindSound {s : State} (h : s.wind.ring.length ≤ 12 ∧ s.wind.slices.length ≤ 40 ∧ s.wind.accCount < 60 ∧
    s.wind.miss ≤ 3 ∧ s.wind.good < 12 ∧ (∀ n ∈ s.wind.ring, n ≤ 500) ∧ (∀ n ∈ s.wind.slices, n ≤ 500) ∧
    s.wind.accSum ≤ 500 * s.wind.accCount) (l : s.wind.last.all fun n => decide (n ≤ 500))
    (p : s.wind.pending.all fun r => r.overrange || decide (r.count < 2000)) (g : s.wind.gust = meanOf s.wind.ring)
    (u : s.wind.sustained = if s.wind.slices.isEmpty then s.wind.gust else meanOf s.wind.slices) : s.WindSound := by
  obtain ⟨a, b, c, d, e, f, i, j⟩ := h
  refine ⟨a, b, c, d, e, f, i, j, ?_, ?_, g, u⟩
  · intro n hn; rw [hn] at l; simpa using l
  · intro r hr; rw [hr] at p; simpa using p

theorem test_w_WindTickTakesItsSample :
    (∀ x ∈ tTicks, x.1.resetHeld = false ∧ x.1.wind.tick = some (ms 250) ∧
      ((after .windTick x.1).wind.last, (after .windTick x.1).wind.miss, (after .windTick x.1).wind.sensorFault) = x.2) ∧
    (∀ x ∈ tTicks, x.1.WindSound) ∧
    (let full := tMast fun w =>
       { w with
         ring := 24 :: List.replicate 11 0, gust := some 2, last := some 12, slices := 40 :: List.replicate 39 0
         sustained := some 1, accSum := 48, accCount := 59 }
     full.WindSound ∧ (after .windTick full).wind.ring = List.replicate 11 0 ++ [12] ∧
       (after .windTick full).wind.gust = some 1 ∧ (after .windTick full).wind.slices = List.replicate 39 0 ++ [1] ∧
       (after .windTick full).wind.sustained = some 0) := by
  refine ⟨by decide +kernel, ?_, tWindSound (by decide +kernel) ?_ ?_ ?_ ?_, ?_, ?_, ?_, ?_⟩
  · simp only [tTicks, List.forall_mem_cons, List.not_mem_nil, false_implies, implies_true, and_true]
    refine ⟨?_, ?_, ?_, ?_, ?_, ?_, ?_, ?_⟩ <;>
      exact tWindSound (by decide +kernel) (by decide +kernel) (by decide +kernel) (by decide +kernel) (by decide +kernel)
  all_goals decide +kernel

/-- A mast in a stage with a full ring of one speed, repeated at the tick. -/
def tGust (stage : Stage) (speed : Nat) (f : Wind → Wind) : State :=
  tMast fun w => f
    { w with
      stage := stage, ring := List.replicate 12 speed, gust := some speed, sustained := some speed, last := some speed }

/-- The mast before a tick, and the stage after it. -/
def tStages : List (State × Stage) :=
  [(tGust .calm 119 id, .calm), (tGust .calm 120 id, .watch), (tGust .calm 140 id, .hold), (tGust .watch 140 id, .hold),
    (tGust .watch 100 id, .watch), (tGust .watch 99 id, .watch),
    (tGust .watch 99 fun w => { w with watchCalm := 238 }, .watch),
    (tGust .watch 99 fun w => { w with watchCalm := 239 }, .calm),
    (tGust .hold 110 fun w => { w with release := 1199 }, .hold),
    (tGust .hold 109 fun w => { w with release := 1199 }, .watch),
    (tGust .hold 219 fun w => { w with clearWait := 2399 }, .clear),
    (tGust .hold 220 fun w => { w with clearWait := 2399 }, .hold), (tGust .clear 219 id, .clear),
    (tGust .clear 220 id, .hold), (tGust .shut 0 id, .shut), (tMast id, .hold),
    ((tGust .clear 0 id).modReplica fun r => { r with records := List.replicate 48 CabinRecord.unused }, .shut)]

theorem test_w_WindStageIsDecidedAtTheTick :
    (∀ x ∈ tStages, x.1.resetHeld = false ∧ x.1.wind.tick = some (ms 250) ∧ (after .windTick x.1).wind.stage = x.2) ∧
    (tMast id).resetHeld = false ∧ (tMast id).role = .mast ∧ (tMast id).hasRoom ∧
    (after .sensorFaultClear (tMast fun w => { w with sensorFault := true, good := 12 })).wind.sensorFault = false ∧
    (after .sliceCompletion (tMast fun w => { w with accCount := 60, accSum := 119 })).wind.slices = [1] ∧
    (after .watchCalmComplete (tGust .watch 99 fun w => { w with watchCalm := 240 })).wind.stage = .calm ∧
    (after .releaseCountComplete (tGust .hold 99 fun w => { w with release := 1200 })).wind.stage = .watch ∧
    (after .clearWaitPassed (tGust .hold 99 fun w => { w with clearWait := 2400 })).wind.clearPassed = true ∧
    ((after .windTick (tGust .clear 220 fun w => { w with clearWait := 2400, clearPassed := true })).wind.clearPassed =
      false) ∧
    ((after .windTick (tGust .hold 220 fun w => { w with clearWait := 2399 })).wind.clearPassed = true) := by
  refine ⟨by decide +kernel, rfl, by decide +kernel, ?_, ?_⟩
  · unfold State.hasRoom; decide +kernel
  · decide +kernel

/-! ### The Integrating Converter -/

/-- A station whose converter de-integrates an input. -/
def tConv (n : Nat) (microvolts : Int) : State :=
  (tStation n).modConv fun c =>
    { c with
      phase := .deintegrating, timer := none, integrator := microvolts
      polarity := some (if microvolts < 0 then .negative else .positive) }

/-- R144 to R150: full scale, one count below it, and nothing. -/
theorem test_w_ConversionPassesItsPhases :
    (∀ n ∈ [1, 3], (tStation n).resetHeld = false ∧ (tStation n).conv.phase = .zeroing ∧
      (tStation n).conv.timer = some (if n = 1 then ms 80 else ms 20)) ∧
    ((after .zeroingEnd (tStation 1)).conv.phase = .integrating ∧
      (after .zeroingEnd (tStation 1)).conv.timer = some (ms 160)) ∧
    ((after (.integratingEnd (-1)) (after .zeroingEnd (tStation 1))).conv.polarity = some .negative) ∧
    ((tStation 4).conv.mode = none ∧ (tStation 4).restartConverter = tStation 4) ∧
    (∀ x ∈ [(1, (999999 : Int), 15999), (1, -62, 0), (3, 999999, 1999), (3, 500, 1)],
      (tConv x.1 x.2.1).conv.phase = .deintegrating ∧
        ((after .zeroCrossingLatch (tConv x.1 x.2.1)).conv.record.map fun r => (r.count, r.overrange)) =
          some (x.2.2, false)) ∧
    (∀ x ∈ [(1, (1000000 : Int), 16000), (1, -1000000, 16000), (3, 1000000, 2000)],
      ((after .overrangeLatch (tConv x.1 x.2.1)).conv.record.map fun r => (r.count, r.overrange)) =
        some (x.2.2, true)) ∧
    ((after .zeroCrossingLatch (tConv 3 500)).wind.pending = some ⟨1, .positive, false, .wind, 1⟩) := by
  decide +kernel

/-- R94: the conversion that a cabin awaits queues the WEIGHED notice, and the COUNT_DOUBT of a count in doubt. -/
theorem test_w_ConversionPassesItsPhases_weighed :
    ∀ x ∈ [((62500 : Int), some 3, [NoticeKind.weighed.code]),
        (10000, some 10, [NoticeKind.countDoubt.code, NoticeKind.weighed.code])],
      let s := (tWeighing.modCabin fun c => { c with occupancy := x.2.1 }).modConv fun c =>
        { c with phase := .deintegrating, timer := none, integrator := x.1, polarity := some .positive }
      (after .zeroCrossingLatch s).line.queue.map (fun e => byteAt e.body 0) = x.2.2 := by decide +kernel

/-! ### Asks -/

/-- A station, an ask kind and its target, and what is answered. -/
def tStationAsks : List (State × AskKind × Byte × Option (Byte × Byte)) :=
  let ready := tMast fun w => { w with stage := .shut, ring := List.replicate 12 0, gust := some 0, sustained := some 0 }
  [(tStation 0, .boardingOpen, 0, some (0, 0)), (tStation 0, .boardingShut, 0, some (0, 0)),
    (tStation 0, .zoneClear, 0, some (0, 0)), (tStation 0, .doorOpen, 0, some (1, 5)), (tStation 0, .doorOpen, 1, none),
    (ready, .windResume, 3, some (0, 0)), (tMast fun w => { w with stage := .shut }, .windResume, 3, some (1, 4)),
    (tMast id, .windResume, 3, some (1, 3)), (tMast id, .dwell, 3, some (1, 5)), (tStation 2, .dwell, 2, some (1, 5)),
    (tStation 4, .dwell, 4, some (1, 5)), (tStation 4, .dwell, 63, none)]

theorem test_w_StationAnswersItsAsks :
    (∀ x ∈ tStationAsks, tAccepts x.1 0x44 5 7 [x.2.2.1, x.2.1.code, 0, 0, 0] = true ∧ x.1.role ≠ .cabin ∧
      ((after (.frameReception (tBits 0x44 5 7 [x.2.2.1, x.2.1.code, 0, 0, 0])) x.1).line.queue.getLast?).map
        TxEntry.body = x.2.2.2.map fun a => [5, 0, a.1, a.2]) ∧
    (let bits := tBits 0x44 5 7 [3, 8, 0, 0, 0]
     (tMast id).atFrameEnd bits (tAt bits (tMast id)) ∧
       (tFrame 0x44 5 7 [3, 8, 0, 0, 0]).acceptedBy bits (tAt bits (tMast id))) ∧
    (tMast id).hasRoom ∧
    ((after (.frameReception (tBits 0x44 5 7 [1, 2, 0, 0, 0])) (tZone [tZoneEntry 0 .entry])).platform.zone.map
      ZoneEntry.closedByAsk = [true]) := by
  refine ⟨by decide +kernel, tDelivered (by decide +kernel), ?_, by decide +kernel⟩
  unfold State.hasRoom; decide +kernel

/-- A station whose Ask Table has entries in use. -/
def tAsking (n : Nat) (entries : List AskEntry) : State :=
  (tStation n).modAsks fun a => { a with entries := entries ++ List.replicate (4 - entries.length) AskEntry.blank }

/-- An entry in a state, to a target, with a tag and marks. -/
def tAsk (st : AskState) (target tag marks : Nat) : AskEntry := ⟨st, .tap, .doorOpen, target, 0, tag, marks, none, none⟩

/-- Four entries in use. -/
def tAskFull : State := tAsking 4 [tAsk .queued 1 0 0, tAsk .queued 1 1 0, tAsk .queued 1 2 0, tAsk .queued 1 3 0]

theorem test_w_TapAskIsOffered :
    (tStation 4).running ∧ (tStation 4).tapFree = true ∧ (tStation 4).role = .console ∧
    AskKind.ofCode 8 = some .windResume ∧ ((0x3F : Byte)).toNat ≤ 63 ∧ (tStation 4).AsksSound ∧ tAskFull.AsksSound ∧
    (tStation 4).hasRoom ∧
    (after (.ask 8 63 0) (tStation 4)).tap.answer = [0x80, 8] ∧ (after (.ask 8 4 0) (tStation 4)).tap.answer = [0x80, 8] ∧
    (after (.ask 8 3 0) tAskFull).tap.answer = [0x80, 7] ∧
    (let s := (tAsking 4 [tAsk .waiting 1 0 1]).modAsks fun a => { a with tagCounter := 0 }
     s.AsksSound ∧ (after (.ask 8 3 0x1234) s).tap.answer = [1, 1, 1] ∧
       (after (.ask 8 3 0x1234) s).line.queue.map TxEntry.body = [[3, 8, 1, 0x12, 0x34]]) ∧
    ((after (.ask 8 3 0) { tStation 4 with mode := .listening }).asks.entries.map AskEntry.state =
      [.failed, .free, .free, .free]) := by
  refine ⟨⟨rfl, rfl⟩, rfl, ?_, ?_, ?_, ?_, ?_, ?_, ?_, ?_, ?_, ⟨?_, ?_, ?_⟩, ?_⟩ <;>
    (try unfold State.AsksSound) <;> (try unfold State.hasRoom) <;> decide +kernel

/-- A REPLY from station 1 with an asker, a tag, an outcome and a reason. -/
def tReply (asker tag outcome reason : Byte) : Instr := .frameReception (tBits 0x52 1 7 [asker, tag, outcome, reason])

theorem test_w_RepliesAndMarksEndTheAsk :
    (let s := tAsking 4 [tAsk .waiting 1 15 1, tAsk .queued 1 3 0]
     (let bits := tBits 0x52 1 7 [4, 15, 1, 0]
      s.atFrameEnd bits (tAt bits s) ∧ (tFrame 0x52 1 7 [4, 15, 1, 0]).acceptedBy bits (tAt bits s)) ∧
       s.AsksSound ∧ s.CountersSound ∧
       (after (tReply 4 15 1 0) s).asks.entries.head?.map AskEntry.reason = some (some .notApplicable) ∧
       (after (tReply 4 15 0 0) s).asks.entries.head?.map (fun e => (e.state, e.accepted, e.reason)) =
         some (.answered, some true, none) ∧
       (after (tReply 4 15 1 6) s).asks.entries.head?.map AskEntry.reason = some (some .notApplicable) ∧
       (after (tReply 4 15 2 1) s).asks.entries.head?.map AskEntry.accepted = some (some false) ∧
       (after (tReply 4 3 0 0) s).asks.lateReply = 1 ∧ (after (tReply 3 15 0 0) s).asks = s.asks) ∧
    (let z (f : Byte) := after (.frameReception (tBits 0x52 1 7 [0, 0, f, 0]))
       ((tZone [{ tZoneEntry 0 .exit with fallback := .pending .doorOpen 0, mismatch := 2 }]).modAsks fun a =>
         { a with entries := a.entries.set 0 { tAsk .waiting 1 0 0 with origin := .fallback } })
     (z 0).platform.zone.map (fun e => (e.fallback, e.mismatch)) = [(.used, 0)] ∧ (z 1).platform.phaseFault = true) ∧
    (let s := tAsking 4 [tAsk .waiting 1 0 1, tAsk .waiting 1 1 0, tAsk .failed 1 2 0, tAsk .queued 1 3 0]
     s.takesMark (tMark s) (tAtMark s) 8 (some tMarkBody) ∧ s.role ≠ .platform ∧ s.CountersSound ∧
       s.asks.entries.length = 4 ∧
       (after (tMark s) s).asks.entries.map (fun e => (e.state, e.marks)) =
         [(.expired, 2), (.waiting, 1), (.free, 0), (.queued, 0)] ∧
       (after (tMark s) s).counter .askExpired = 1) ∧
    (let s := tAsking 4 [tAsk .free 0 0 0, tAsk .free 0 0 0, tAsk .free 0 0 0, tAsk .waiting 1 0 2]
     s.running ∧ s.CountersSound ∧
       (after (.askExpiry 3) s).asks.entries.map AskEntry.state = [.free, .free, .free, .expired]) ∧
    (∀ zone ∈ [[], [{ tZoneEntry 0 .exit with mismatch := 1 }]],
      let s :=
        { tAsking 0 [tAsk .waiting 1 0 1, tAsk .waiting 1 1 0, tAsk .queued 1 3 0, tAsk .failed 1 2 0] with
          platform := (tZone zone).platform }
      s.takesMark (tMark s) (tAtMark s) 8 (some tMarkBody) ∧ s.role = .platform ∧ s.CountersSound ∧
        s.asks.entries.length = 4 ∧
        (after (tMark s) s).asks.entries.map (fun e => (e.state, e.marks, e.origin)) =
          [(.expired, 2, .tap), (.waiting, 1, .tap), (.queued, 0, .tap),
            if zone = [] then (.free, 0, .tap) else (.queued, 0, .fallback)]) := by
  refine ⟨⟨tDelivered (by decide +kernel), ?_, tCounters (by decide +kernel), ?_⟩, ?_,
    ⟨tTaken (by decide +kernel), ?_, tCounters (by decide +kernel), ?_⟩, ⟨⟨rfl, rfl⟩, tCounters (by decide +kernel), ?_⟩, ?_⟩
  · unfold State.AsksSound; decide +kernel
  · decide +kernel
  · decide +kernel
  · decide +kernel
  · decide +kernel
  · decide +kernel
  · simp only [List.forall_mem_cons, List.not_mem_nil, false_implies, implies_true, and_true]
    exact ⟨⟨tTaken (by decide +kernel), by decide +kernel, tCounters (by decide +kernel), by decide +kernel⟩,
      tTaken (by decide +kernel), by decide +kernel, tCounters (by decide +kernel), by decide +kernel⟩

theorem test_w_EveryStepKeepsZoneAsksWindAndConverter :
    (tBusy false).ZoneSound ∧ tAskFull.AsksSound ∧ (tStation 3).WindSound ∧ (tConv 3 (-1)).ConverterSound ∧
    ∃ t, step { tConv 3 (-1) with pending := [.zeroCrossingLatch] } = .next t := by
  refine ⟨?_, ?_, tWindSound (by decide +kernel) ?_ ?_ ?_ ?_, ⟨by decide +kernel, by decide +kernel, ?_, by decide +kernel⟩,
    ⟨_, rfl⟩⟩
  · unfold State.ZoneSound; decide +kernel
  · unfold State.AsksSound; decide +kernel
  · decide +kernel
  · decide +kernel
  · decide +kernel
  · decide +kernel
  · intro r h
    rw [(by decide +kernel : (tConv 3 (-1)).conv.record = none)] at h
    cases h

/-! ### Start-up -/

/-- The first 254 bytes of an image: version, roster (ABSENT where none is given), settings (default where none is
given). -/
def tImageHead (version : Byte) (roster settings : List Byte) : List Byte :=
  version :: roster ++ ((List.replicate 64 [(0 : Byte), 0xFF, 0xFF]).flatten.drop roster.length) ++ settings ++
    List.replicate (61 - settings.length) 0xFF

/-- The roster of the small stations: role, cabin index, rank. -/
def tRosterBytes : List Byte := [2, 255, 0, 1, 0, 255, 3, 255, 1, 4, 255, 7, 5, 255, 255, 1, 47, 255]

/-- An image that passes, every setting at its default. -/
def tImage : List Byte := tImageHead 1 tRosterBytes [] ++ [0x25, 0x5D]

/-- Its CRC, taken in pieces. -/
theorem tImageCrc : crc16 (tImage.take 254) = 0x255D := by
  have pieces : tImage.take 254 =
      (1 :: tRosterBytes) ++ (List.replicate 16 [(0 : Byte), 0xFF, 0xFF]).flatten ++
        (List.replicate 16 [(0 : Byte), 0xFF, 0xFF]).flatten ++ (List.replicate 16 [(0 : Byte), 0xFF, 0xFF]).flatten ++
        (List.replicate 10 [(0 : Byte), 0xFF, 0xFF]).flatten ++ List.replicate 61 0xFF := by decide +kernel
  rw [pieces]
  simp only [crc16, List.foldl_append]
  rw [(by decide +kernel : (1 :: tRosterBytes).foldl crcByte 0xFFFF = 0xD6AE),
    (by decide +kernel : (List.replicate 16 [(0 : Byte), 0xFF, 0xFF]).flatten.foldl crcByte 0xD6AE = 0xD22E),
    (by decide +kernel : (List.replicate 16 [(0 : Byte), 0xFF, 0xFF]).flatten.foldl crcByte 0xD22E = 0xB4A9),
    (by decide +kernel : (List.replicate 16 [(0 : Byte), 0xFF, 0xFF]).flatten.foldl crcByte 0xB4A9 = 0xE6C4),
    (by decide +kernel : (List.replicate 10 [(0 : Byte), 0xFF, 0xFF]).flatten.foldl crcByte 0xE6C4 = 0x704C)]
  decide +kernel

theorem tImagePasses : ∀ n ∈ [0, 1, 2, 3, 4, 5], imageFailure tImage n = none := by
  intro n h
  simp only [imageFailure, tImageCrc]
  revert n
  decide +kernel

/-- An image whose CRC is right. -/
def tSealed (head : List Byte) : List Byte := head ++ twoBytes (crc16 head).toNat

theorem tSealed_length {head : List Byte} (h : head.length = 254) : (tSealed head).length = 256 := by
  simp [tSealed, twoBytes, h]

theorem tSealed_head {head : List Byte} (h : head.length = 254) : (tSealed head).take 254 = head := by
  rw [tSealed, ← h, List.take_left]

theorem tSealed_word {head : List Byte} (h : head.length = 254) : imageWord (tSealed head) 254 = (crc16 head).toNat := by
  have small := (crc16 head).isLt
  simp only [imageWord, imageByte, tSealed, twoBytes, List.getD_eq_getElem?_getD,
    List.getElem?_append_right (Nat.le_of_eq h), List.getElem?_append_right (Nat.le_succ_of_le (Nat.le_of_eq h)), h]
  simp
  omega

/-- Heads of images of version 1, a station number, and the judgement: images that pass, with every setting at its default
and at an end of its range, and one that fails each check. -/
def tJudged : List (List Byte × Nat × Option (StartCause × Nat)) :=
  let head := tImageHead 1 tRosterBytes []
  [(head, 1, none),
    (tImageHead 1 tRosterBytes
      [3, 20, 6, 3, 3, 3, 3, 0, 4, 60, 32, 0x0F, 0xA0, 1, 0xF4, 1, 0xF4, 2, 0x58, 1, 0xF4, 1, 0xF4, 1, 0xF4, 1, 0xF4, 7,
        8, 1, 0xF4, 0x0E, 0x10, 16, 32, 254, 3, 63, 13, 4, 0xFE, 8, 0x0E, 0xFE, 0xFE, 0, 77, 77, 0xFF, 1, 1, 5, 0, 0xFE],
      0, none),
    ((head.set 190 6).set 17 48, 1, some (.rosterField, 5)), (head, 6, some (.ownAbsent, 6)),
    ((head.set 10 5).set 1 3, 1, some (.roleCount, 2)), (head.set 17 0, 1, some (.cabinIndex, 1))]

def tJudgedLater : List (List Byte × Nat × Option (StartCause × Nat)) :=
  let head := tImageHead 1 tRosterBytes []
  [(head.set 12 1, 1, some (.rank, 2)), (((head.set 3 255).set 9 255).set 12 255, 1, some (.noMarker, 0)),
    ((head.set 206 0).set 207 181, 1, some (.range, 16)), (head.set 244 1, 1, some (.range, 31))]

theorem tJudged_small : ∀ x ∈ tJudged ++ tJudgedLater, x.1.length = 254 ∧ x.2.1 < 64 := by decide +kernel

theorem tJudged_first : ∀ x ∈ tJudged, imageFailure (tSealed x.1) x.2.1 = x.2.2 := by
  intro x h
  have len := (tJudged_small x (List.mem_append_left _ h)).1
  simp only [imageFailure, tSealed_head len, tSealed_word len, ne_eq, not_true_eq_false, if_false]
  clear len
  revert x
  decide +kernel

theorem tJudged_later : ∀ x ∈ tJudgedLater, imageFailure (tSealed x.1) x.2.1 = x.2.2 := by
  intro x h
  have len := (tJudged_small x (List.mem_append_right _ h)).1
  simp only [imageFailure, tSealed_head len, tSealed_word len, ne_eq, not_true_eq_false, if_false]
  clear len
  revert x
  decide +kernel

/-- A setting's byte in an image of defaults, and the numbers of the settings that are then out of their ranges. -/
def tSettings : List (Nat × Byte × List Nat) :=
  [(193, 4, [1]), (195, 1, [3]), (196, 4, [4]), (201, 0, [9]), (202, 9, [10]), (203, 33, [11]), (204, 0x10, [12]),
    (206, 1, [13, 16]), (208, 0, [14]), (210, 3, [15]), (212, 1, [16, 21]), (214, 2, [17]), (216, 1, [18]), (218, 1, [19]),
    (220, 8, [20]), (222, 1, [21]), (224, 15, [22]), (226, 17, [23]), (227, 0, [24]), (228, 0, [25]), (229, 6, [26])]

/-- R178 to R180: images that pass, and images that fail, each at its own check. -/
theorem test_w_PassingImageIsSound :
    (∀ x ∈ tJudged ++ tJudgedLater,
      (tSealed x.1).length = 256 ∧ x.2.1 < 64 ∧ imageFailure (tSealed x.1) x.2.1 = x.2.2) ∧
    imageFailure (tImage.set 0 2) 1 = some (.version, 2) ∧
    imageFailure (tImage.set 255 0) 1 = some (.crc, 0x255D) ∧
    (∀ x ∈ tSettings, (List.range 31).filterMap (fun k =>
      if (settingChecks (tImage.set x.1 x.2.1)).getD k true then none else some (k + 1)) = x.2.2) := by
  refine ⟨fun x h => ⟨tSealed_length (tJudged_small x h).1, (tJudged_small x h).2, ?_⟩, by decide +kernel, ?_,
    by decide +kernel⟩
  · exact (List.mem_append.mp h).elim (tJudged_first x) (tJudged_later x)
  · have same : (tImage.set 255 0).take 254 = tImage.take 254 := by decide +kernel
    simp only [imageFailure, same, tImageCrc]
    decide +kernel

theorem test_w_StartResetAndItsRelease :
    State.reset.resetHeld = true ∧ State.reset.loader.tries < 3 ∧
    (after (.resetRelease 63 9) State.reset).loader.retryWait = none ∧
    (after (.resetRelease 63 10) State.reset).loader.retryWait = some (ms 5) ∧
    (after .startReset (tStation 3)).wind.stage = .hold := by decide +kernel

/-- A strapped station in LOADING. -/
def tTry (n tries : Nat) : State := { tLoading with station := n }.modLoader fun l => { l with tries := tries }

/-- The station handed out from an image. -/
def tHandedOut (image : List Byte) (s : State) : State :=
  (((s.modLoader fun l => { l with phase := .checking, image := image, version := some 1 }).handOut
    image).enterListening).settle

theorem tHandedOut_of (image : List Byte) {s : State} (held : s.resetHeld = false) (h : s.trying = true)
    (whole : (image ++ List.replicate 256 0xFF).take 256 = image) (version : image[0]? = some 1)
    (f : imageFailure image s.station = none) :
    exec (.configReadTryEnd (tRead image)) s = .next (tHandedOut image s) := by
  have judged : s.judgeImage image =
      ((s.modLoader fun l => { l with phase := .checking, image := image, version := some 1 }).handOut
        image).enterListening := by
    unfold State.judgeImage
    rw [whole]
    simp only [version, State.modLoader_station, f]
  have answered : tryFailure (tRead image) = none := (by decide +kernel : tryFailure (tRead []) = none)
  show execConfigReadTryEnd (tRead image) s = _
  unfold execConfigReadTryEnd tHandedOut
  rw [occurs_of State.trying _ held h, ← judged, answered, tRead]

/-- The station handed out from the image. -/
def tHanded (s : State) : State := tHandedOut tImage s

/-- Transfers that fail at each of the four bytes, and the cause: a missing acknowledge, a high bit read back low, and
both at once. -/
def tFailures : List (ReadTry × StartCause) :=
  let ok := tRead []
  [({ ok with writeAddress := 0x15D }, .noMemory), ({ ok with memoryHigh := 1 }, .noMemory),
    ({ ok with memoryLow := 1 }, .noMemory), ({ ok with readAddress := 0x15F }, .noMemory),
    ({ ok with writeAddress := 0x05C }, .busStuck), ({ ok with writeAddress := 0x158 }, .busStuck),
    ({ ok with readAddress := 0x15C }, .busStuck), ({ ok with readAddress := 0 }, .busStuck),
    ({ ok with writeAddress := 0x15B }, .busStuck), ({ ok with memoryLow := 1, readAddress := 0 }, .noMemory)]

theorem test_w_TriesEndInListeningOrConfigFault :
    (∀ x ∈ tFailures, (after (.configReadTryEnd x.1) (tTry 1 2)).loader.retryWait = some (ms 5) ∧
      (after (.configReadTryEnd x.1) (tTry 1 3)).loader.cause = x.2) ∧
    (∀ n ∈ [1, 2, 3], (tTry 1 n).resetHeld = false ∧ (tTry 1 n).mode = .loading ∧ (tTry 1 n).loader.phase = .reading ∧
      (tTry 1 n).loader.retryWait = none) ∧
    (after (.configReadTryEnd (tRead (tImage.set 0 2))) (tTry 6 1)).loader.cause = .version ∧
    (let s (n : Nat) := (tTry 1 n).modLoader fun l => { l with retryWait := some (ms 5) }
     (s 1).loader.retryWait = some (ms 5) ∧ (after (.configRetryWaitExpiry 9) (s 2)).loader.tries = 3 ∧
       (after (.configRetryWaitExpiry 10) (s 1)).loader.retryWait = some (ms 5) ∧
       (after (.configRetryWaitExpiry 10) (s 2)).mode = .configFault) ∧
    (∀ n ∈ [0, 1, 2, 3, 4], imageFailure tImage n = none) ∧
    exec (.configReadTryEnd (tRead tImage)) (tTry 1 1) = .next (tHanded (tTry 1 1)) ∧
    (∀ n ∈ [0, 1, 2, 3, 4], (tHanded (tTry n 1)).mode = .listening ∧ (tHanded (tTry n 1)).roster = tRoster) ∧
    (tHanded (tTry 1 1)).cabin.phase = .doorFault ∧ (tHanded { tTry 1 1 with fi := 4 }).cabin.phase = .away ∧
    (tHanded { tTry 2 1 with fi := 4 }).drive.state = .faulted ∧
    (tTry 2 1).drive = Drive.reset ∧ (tTry 0 1).platform = Platform.reset := by
  refine ⟨?_, ?_, ?_, ?_, fun n h => tImagePasses n (by simp at h ⊢; omega),
    tHandedOut_of tImage rfl (by decide +kernel) (by decide +kernel) (by decide +kernel) (tImagePasses 1 (by decide)), ?_⟩
  all_goals decide +kernel

/-! ### Tap port, capture and status -/

/-- A transaction, the station it finds, and its refusal reason. -/
def tRefusals : List (Instr × State × Byte) :=
  [(.unknownTransactionCode 0, tStation 4, 1), (.unknownTransactionCode 8, tLoading, 1), (.readRecord 1 0, tLoading, 2),
    (.readClear 12, tLoading, 2), (.release 0, tLoading, 2), (.ask 1 1 0, tLoading, 2), (.key 1, tLoading, 2),
    (.setMask 0, tLoading, 2), (.setSelector 0 0 0 0, tLoading, 2), (.ask 1 1 0, tStation 1, 3), (.key 5, tStation 4, 3),
    (.key 3, tStation 0, 3), (.key 10, tStation 0, 3), (.readRecord 12 0, tStation 4, 4), (.readClear 11, tStation 4, 4),
    (.readClear 15, tStation 4, 4), (.readRecord 0 9, tLoading, 5), (.readRecord 3 128, tStation 4, 5),
    (.readRecord 8 1, tStation 4, 5), (.readRecord 8 5, tStation 0, 5), (.ask 9 1 0, tStation 4, 6),
    (.ask 1 64 0, tStation 4, 6), (.release 33, tStation 4, 6), (.setMask 0x10000, tStation 4, 6),
    (.setSelector 6 1 0 0xFE, tStation 4, 6), (.setSelector 5 6 0 0xFE, tStation 4, 6),
    (.setSelector 5 1 64 0xFE, tStation 4, 6), (.setSelector 5 3 63 14, tStation 4, 6),
    (.setSelector 5 4 63 9, tStation 4, 6), (.setSelector 5 14 0xFE 1, tStation 4, 6)]

/-- Bytes received in a selection, and the transaction they are, if they are one yet. -/
def tSelections : List (List Byte × Option Instr) :=
  [([], none), ([0], some (.unknownTransactionCode 0)), ([8, 1], some (.unknownTransactionCode 8)), ([1, 5], none),
    ([1, 5, 1], some (.readRecord 5 1)), ([1, 5, 1, 9], some (.readRecord 5 1)), ([2, 12], some (.readClear 12)),
    ([3, 32], some (.release 32)), ([4, 8, 3, 0x12], none), ([4, 8, 3, 0x12, 0x34], some (.ask 8 3 0x1234)),
    ([5, 1], some (.key 1)), ([6, 0, 0x80, 0], some (.setMask 0x8000)), ([7, 5, 3, 63], none),
    ([7, 5, 3, 63, 13], some (.setSelector 5 3 63 13))]

theorem test_w_TransactionsByTheirCodes : ∀ x ∈ tSelections, transactionOf x.1 = x.2 ∧
    ∀ c, x.2 = some c → (tStation 4).resetHeld = false ∧ (tStation 4).tapFree = true ∧
      (after c (tStation 4)).tap.code :: (after c (tStation 4)).tap.args =
        x.1.take ((after c (tStation 4)).tap.args.length + 1) := by
  simp only [tSelections, List.forall_mem_cons, List.not_mem_nil, false_implies, implies_true, and_true,
    Option.some.injEq, forall_eq', reduceCtorEq]
  decide +kernel

theorem test_w_TapRefusesTransactions : ∀ x ∈ tRefusals, x.2.1.resetHeld = false ∧ x.2.1.tapFree = true ∧
    (after x.1 x.2.1).tap.answer = [0x80, x.2.2] := by decide +kernel

/-- A station with the capture switch on and its ring at a place, so many captures unreleased. -/
def tCaptured (place readers : Nat) : State :=
  (tStation 4).modCapture fun u =>
    { u with
      on := true, releasePlace := place, writePlace := (place + readers) % 32, sequence := 0xFFFF
      slots := (List.range 32).map fun k => ⟨decide ((k + 32 - place) % 32 < readers), Slot.blank.capture⟩ }

theorem tCaptureSound {s : State} (n : Fin 33) (h : s.capture.slots.length = 32 ∧ s.capture.writePlace < 32 ∧
    s.capture.releasePlace < 32 ∧ s.capture.writePlace = (s.capture.releasePlace + n.val) % 32 ∧
    ∀ k : Fin 32,
      (s.capture.slots[(s.capture.releasePlace + k.val) % 32]?).map Slot.reader = some (decide (k.val < n.val))) :
    s.CaptureSound := ⟨h.1, h.2.1, h.2.2.1, n, h.2.2.2⟩

/-- Areas and indices, the record that a read shows (section 12.4), and the station it is read of. -/
def tRecordsRead : List ((Byte × Byte) × List Byte × State) :=
  let heard := (tStation 4).modEntry 1 fun e => { e with last := some ⟨2, 0x0102, .cabin, [9]⟩ }
  let backing := { TxEntry.fresh .mark [] none with attempts := 3, backoff := some 4 }
  let queued := (tStation 4).modLine fun l => { l with queue := [TxEntry.fresh .ask [] none, backing] }
  let agreed := (tStation 2).modAgreement fun a =>
    { a with roundClosed := some 6, silentReason := true, reasons := 0x8001, holders := [⟨3, .heard, 0x80, false⟩] }
  let asked := tAsking 4 [{ tAsk .answered 1 15 1 with accepted := some false, reason := some .wind },
    tAsk .queued 1 3 0, tAsk .free 0 0 0, tAsk .waiting 1 2 1]
  [((1, 0), [3, 0, 0, 0, 2, 4, 4, 0, 0, 1, 1, 3, 1], queued), ((2, 0), [7, 0, 12, 1, 1, 2, 0, 0], tStation 2),
    ((4, 0), [2, 0, 1, 0, 0, 0, 0, 0, 0], tStation 4), ((4, 1), [1, 1, 0, 0, 0, 0, 1, 2, 1, 1, 2, 1, 1, 9], heard),
    ((5, 0), [2, 0, 0, 3, 0, 0, 0, 1], tStation 2), ((5, 1), [], tStation 2),
    ((5, 1), [2, 0, 0, 3, 0, 0, 0, 1, 0, 7], (tStation 2).publish),
    ((6, 0), [0, 1, 6, 1, 0x80, 1, 0, 1], agreed), ((6, 2), [], agreed),
    ((7, 0), [1, 1, 0, 0, 255, 0, 0, 0, 0, 1, 7, 0, 0, 255], tStation 2),
    ((7, 1), [0, 0, 0, 0, 0, 0, 0, 0, 0, 0, 0, 0], tStation 2), ((7, 48), [2, 243, 238, 0], tStation 2),
    ((10, 0),
      [3, 0, 1, 1, 0, 0, 15, 1, 1, 1, 1, 4, 1, 0, 1, 1, 0, 0, 3, 0, 0, 0, 0, 2, 0, 1, 1, 0, 0, 2, 1, 0, 0, 0, 0, 0],
      asked)]

theorem test_w_ReadsShowTheRecords :
    (tStation 4).running ∧ (tStation 4).tapFree = true ∧ (tStation 4).CountersSound ∧
    (tCaptured 31 2).CaptureSound ∧
    (∀ x ∈ [((0 : Byte), 0, Area.start), (0, 8, .start), (1, 0, .line), (2, 0, .round), (3, 127, .heard),
        (4, 63, .roster), (5, 1, .own), (6, 64, .agreement), (7, 48, .replica), (8, 0, .role), (9, 0, .converter),
        (10, 0, .asks), (11, 31, .capture)],
      Area.ofCode x.1 = some x.2.2 ∧ (Area.top (tStation 4).role x.2.2).isSome = true ∧
        x.2.1 ≤ (Area.top (tStation 4).role x.2.2).getD 0) ∧
    (after (.readRecord 0 0) tLoading).tap.answer = [0, 7, 0, 0, 1, 0, 0, 0, 0] ∧ tLoading.loader.image.length = 256 ∧
    (after (.readRecord 11 2) (tCaptured 31 2)).tap.answer = [0, 0] ∧
    (after (.readRecord 11 1) (tCaptured 31 2)).tap.answer = [0, 7, 0, 0, 0, 0, 0, 0, 0] ∧
    (after (.readRecord 9 0) (tStation 4)).tap.answer = [0, 4, 0, 0, 0] ∧
    (∀ x ∈ tRecordsRead, (x.2.2.resetHeld = false ∧ x.2.2.tapFree = true ∧ x.2.2.mode.receiving = true) ∧
      (after (.readRecord x.1.1 x.1.2) x.2.2).tap.answer = 0 :: BitVec.ofNat 8 x.2.1.length :: x.2.1) ∧
    (after (.readClear 12) (tStation 4)).tap.answer = [0, 4, 0, 0, 0, 0] ∧
    (after (.readClear 13) (tStation 4)).tap.answer = 0 :: 28 :: List.replicate 28 0 ∧
    (after (.readClear 14) (tStation 4)).tap.answer = [0, 7, 0, 0, 0, 0, 0, 0, 0] := by
  refine ⟨⟨rfl, rfl⟩, rfl, tCounters (by decide +kernel), tCaptureSound 2 (by decide +kernel), ?_⟩
  decide +kernel

/-- A station that has found no memory. -/
def tNoMemory : State := tLoading.configFault .noMemory 0

/-- R155, R181, R185: what a station in CONFIG_FAULT shows of its converter. -/
theorem test_w_ReadsShowTheRecords_configFault :
    (tNoMemory.resetHeld = false ∧ tNoMemory.tapFree = true ∧ tNoMemory.StartSound ∧ tNoMemory.LoaderSound ∧
      tNoMemory.mode = .configFault) ∧
    tNoMemory.areaRecord .converter 0 = [0, 0, 0] ∧ (after (.readRecord 9 0) tNoMemory).tap.answer = [0x80, 2] ∧
    (after (.readRecord 0 0) tNoMemory).tap.answer = [0, 7, 3, 0, 1, 0, 1, 0, 0] := by
  refine ⟨⟨rfl, rfl, ?_, ?_, rfl⟩, by decide +kernel⟩
  · unfold State.StartSound; decide +kernel
  · unfold State.LoaderSound; decide +kernel

/-- A station in the middle of an answer. -/
def tAnswering (ending : TapEnd) (s : State) : State :=
  s.modTap fun t => { t with phase := .answering, pendingEnd := ending, answer := [0] }

theorem test_w_AnswerEndsAndClears :
    (∀ e ∈ [TapEnd.nothing, .status 0xFFFF, .counters (List.replicate 14 0), .causes ⟨true, true, true, true⟩ 1,
        .converter true, .asks 1],
      (tAnswering e (tStation 4)).resetHeld = false ∧ (tAnswering e (tStation 4)).tap.phase = .answering ∧
        (after .answerComplete (tAnswering e (tStation 4))).tap.phase = .done ∧
        (after .selectionEnd (tAnswering e (tStation 4))).tap.phase = .idle) ∧
    (List.replicate 14 65535).length = 14 ∧
    (let s := tAnswering (.status 3) ((tStation 4).setFlag .crc |>.setFlag .runtLong |>.setFlag .format)
     (after .answerComplete s).status.flags = 4 ∧ (after .answerComplete (s.setFlag .crc)).status.flags = 5) ∧
    (let s := tAnswering (.counters (65535 :: List.replicate 13 0)) ((tStation 4).modStatus fun u =>
       { u with counters := 65535 :: List.replicate 13 2 })
     (after .answerComplete s).status.counters = 0 :: List.replicate 13 2) ∧
    (let s := tAnswering (.causes ⟨true, false, true, false⟩ 2) ((tStation 4).modStatus fun u =>
       { u with causes := ⟨true, false, true, true⟩, newCaptures := 3 })
     (after .answerComplete s).status.causes = ⟨false, false, false, true⟩ ∧
       (after .answerComplete s).status.newCaptures = 1 ∧ (after .answerComplete s).status.attnTimer = some 0) ∧
    (after .answerComplete (tAnswering (.converter true) (tStation 4))).tap.answer = [0, 2] ∧
    ((List.range 3).map (tAnswering (.converter true) (tStation 4)).tapOut = [some 0, some 2, some 0xFF] ∧
      (List.range 3).map (after .answerComplete (tAnswering (.converter true) (tStation 4))).tapOut =
        [some 0, some 2, some 0xFF] ∧
      (after .selectionEnd (tAnswering (.converter true) (tStation 4))).tapOut 0 = none) ∧
    (tAnswering (.status 0) (tStation 4)).tap.pendingEnd = .status 0 := by decide +kernel

theorem test_w_ReleaseMaskSelectorAndKey :
    (tStation 4).running ∧ (tStation 4).tapFree = true ∧ (tStation 0).running ∧ (tStation 0).tapFree = true ∧
    (tCaptured 31 2).CaptureSound ∧ (tCaptured 0 32).CaptureSound ∧ (tStation 4).capture.selectors.length = 6 ∧
    (after (.release 1) (tCaptured 31 2)).tap.answer = [0, 1] ∧ (after (.release 32) (tCaptured 31 2)).tap.answer = [0, 2] ∧
    (after (.release 32) (tCaptured 0 32)).capture.readers = 0 ∧
    (after (.setMask 0xFFFF) (tStation 4)).status.mask = 0xFFFF ∧
    ((after (.setMask 0) ((tStation 4).modStatus fun u => { u with mask := 5 })).status.mask = 0 ∧
      (after (.setMask 0) (tStation 4)).tap.answer = [0]) ∧
    (∀ n : Fin 24, (tStation 0).filterPassed n.val = true ∧ (tStation 4).filterPassed n.val = true) ∧
    (after (.setSelector 5 3 63 13) (tStation 4)).capture.selectors[5]? =
      some (some ⟨some .notice, some 63, some 13⟩) ∧
    (after (.setSelector 0 14 0xFE 0xFE) (tStation 4)).capture.selectors[0]? = some (some ⟨none, none, none⟩) ∧
    (after (.setSelector 5 0 0xAA 0xAA) (tStation 4)).capture.selectors[5]? = some none ∧
    (∀ c ∈ [((1 : Byte), Instr.consoleKeyStop), (2, .consoleKeyResume), (3, .keyEvac), (4, .keyEvacEnd)],
      (after (.key c.1) (tStation 4)).tap.answer = [0] ∧
        (after (.key c.1) (tStation 4)).console = (after c.2 (tStation 4)).console) ∧
    (∀ c ∈ [((1 : Byte), Instr.keyStop), (2, .keyResume), (5, .keyBoardOpen), (6, .keyBoardShut), (7, .keyDwell),
        (8, .keyDwellEnd), (9, .keyZoneClear)],
      (after (.key c.1) (tStation 0)).tap.answer = [0] ∧
        (after (.key c.1) (tStation 0)).platform = (after c.2 (tStation 0)).platform) := by
  refine ⟨⟨rfl, rfl⟩, rfl, ⟨rfl, rfl⟩, rfl, tCaptureSound 2 (by decide +kernel), tCaptureSound 32 (by decide +kernel), ?_⟩
  decide +kernel

/-- A selector, the header, sender and body of a frame, and whether it matches. -/
def tMatches : List (Selector × Byte × Byte × List Byte × Bool) :=
  [(⟨none, none, none⟩, 0x11, 63, [], true), (⟨some .mark, none, none⟩, 0x11, 0, [], true),
    (⟨some .mark, none, none⟩, 0x23, 0, [], false), (⟨some .state, none, none⟩, 0x23, 0, [], true),
    (⟨some .notice, none, none⟩, 0x35, 0, [1], true), (⟨some .notice, none, none⟩, 0x36, 0, [1], true),
    (⟨some .ask, none, none⟩, 0x44, 0, [1, 8], true), (⟨some .reply, none, none⟩, 0x52, 0, [], true),
    (⟨none, some 63, none⟩, 0x52, 63, [], true), (⟨none, some 63, none⟩, 0x52, 62, [], false),
    (⟨some .notice, none, some 13⟩, 0x36, 0, [13], true), (⟨some .notice, none, some 13⟩, 0x36, 0, [12], false),
    (⟨some .ask, none, some 8⟩, 0x44, 0, [1, 8], true), (⟨some .ask, none, some 1⟩, 0x44, 0, [1, 8], false),
    (⟨none, none, some 8⟩, 0x44, 0, [1, 8], true), (⟨none, none, some 8⟩, 0x35, 0, [8], true),
    (⟨none, none, some 0⟩, 0x11, 0, [0, 0], false)]

theorem test_w_FramesAreCaptured_selectors : ∀ x ∈ tMatches,
    let s := (tCaptured 5 31).modCapture fun c => { c with selectors := [none, some x.1] }
    (s.offerCapture x.2.1 x.2.2.1 8 x.2.2.2.1 false).capture.sequence = if x.2.2.2.2 then 0 else 0xFFFF := by
  decide +kernel

/-- A frame heard with the own number, from a stranger, and accepted, and a MARK, each at a running station that
captures; and an ASK that it sends. -/
theorem test_w_FramesAreCaptured_from_the_line :
    (∀ x ∈ [((0x52 : Byte), (4 : Byte), [(4 : Byte), 0, 0, 0]), (0x52, 63, [4, 0, 0, 0]), (0x52, 1, [4, 0, 0, 0]),
        (0x11, 0, tMarkBody)],
      let s := tCaptured 5 31
      tCarries x.1 x.2.1 7 x.2.2 = true ∧ (tFrame x.1 x.2.1 7 x.2.2).expectedCrc = (tFrame x.1 x.2.1 7 x.2.2).crc ∧
        formatOk (tFrame x.1 x.2.1 7 x.2.2) = true ∧ s.resetHeld = false ∧ s.mode.receiving = true ∧
        s.line.sending = false ∧
        ((after (.frameReception (tBits x.1 x.2.1 7 x.2.2)) s).capture.slots[4]?).map Slot.capture =
          some ⟨0xFFFF, 7, x.1, x.2.1, false, x.2.2⟩) ∧
    (let s := (tCaptured 5 31).modLine fun l => { l with queue := (tCollider 0).line.queue }
     s.resetHeld = false ∧ (s.sendingEntry).isSome = true ∧
       ((after (.transmissionSuccess (tWhole s)) s).capture.slots[4]?).map Slot.capture =
         some ⟨0xFFFF, 7, 0x44, 2, true, [1, 1, 0, 0, 0]⟩) := by decide +kernel

theorem test_w_FramesAreCaptured :
    (tCaptured 5 31).CountersSound ∧ (tCaptured 5 31).CaptureSound ∧ (tCaptured 5 32).CaptureSound ∧
    (tStation 4).capture.on = false ∧ (tCaptured 5 31).capture.wants 0x11 0 [] = true ∧
    (tCaptured 5 31).capture.devices = 1 ∧ (tCaptured 5 32).capture.devices = 0 ∧
    ((tCaptured 5 31).modCapture fun u => { u with selectors := [some ⟨some .ask, none, none⟩] }).capture.wants 0x11 0 []
      = false ∧
    (((tCaptured 5 31).offerCapture 0x11 0 8 [] false).capture.sequence = 0) ∧
    (((tCaptured 5 32).offerCapture 0x11 0 8 [] false).flag .captureFull = true) :=
  ⟨tCounters (by decide +kernel), tCaptureSound 31 (by decide +kernel), tCaptureSound 32 (by decide +kernel),
    by decide +kernel⟩

/-- R191, R197: a frame heard and captured is the eighth, and raises the cause; a count of 255 stands. -/
theorem test_w_FramesAreCaptured_noted :
    (let s := (tCaptured 5 31).modStatus fun u => { u with newCaptures := 7 }
     let t := after (.frameReception (tBits 0x52 1 7 [4, 0, 0, 0])) s
     tAccepts s 0x52 1 7 [4, 0, 0, 0] = true ∧ s.settings.attentionCount = 8 ∧ s.status.causes.captureCount = false ∧
       t.status.newCaptures = 8 ∧ t.status.causes.captureCount = true) ∧
    (let s := (tCaptured 5 31).modStatus fun u => { u with newCaptures := 255 }
     s.noteCapture = s) := by decide +kernel

theorem test_w_FlagsCausesAndLines :
    (tStation 4).CountersSound ∧ (tStation 4).running ∧ (tStation 4).faultN = true ∧ tLoading.faultN = false ∧
    ((tStation 4).setFlag .noTarget).faultN = false ∧ (tStation 4).attn = false ∧
    ((tStation 4).setFlag .noTarget).attn = true ∧
    (((tStation 4).modStatus fun u => { u with mask := 0x8000 }).setFlag .noTarget).faultN = true ∧
    (((tStation 4).modStatus fun u => { u with counters := u.counters.set 13 32767 }).bump .askExpired).attn = true ∧
    (let s (n : Nat) := (tStation 4).modStatus fun u => { u with newCaptures := n }
     (s 254).status.newCaptures < 255 ∧ (s 6).noteCapture.attn = false ∧ (s 7).noteCapture.attn = true ∧
       (s 0).noteCapture.status.attnTimer = some 0 ∧
       (after .captureCountReached (s 8)).status.causes.captureCount = true) ∧
    (after .attentionTimerExpiry ((tStation 4).modStatus fun u => { u with attnTimer := some 4 })).attn = true ∧
    (after (.counterHalfScale .stale) ((tStation 4).modStatus fun u =>
      { u with halfDue := Counter.stale.mask })).attn = true ∧
    (let s := (((tStation 4).setFlag .noTarget).modStatus fun u => { u with fresh := 0 }).writeWorking
     s.takesMark (tMark s) (tAtMark s) 8 (some tMarkBody) ∧ s.FollowersSound ∧
       (after (tMark s) s).flag .noTarget = false) := by
  refine ⟨tCounters (by decide +kernel), ⟨rfl, rfl⟩, ?_, ?_, ?_, ?_, ?_, ?_, ?_, ?_, ?_, ?_, tTaken (by decide +kernel),
    ?_, ?_⟩
  · decide +kernel
  · decide +kernel
  · decide +kernel
  · decide +kernel
  · decide +kernel
  · decide +kernel
  · decide +kernel
  · decide +kernel
  · decide +kernel
  · decide +kernel
  · unfold State.FollowersSound; decide +kernel
  · decide +kernel

/-- A station that captures a MARK heard, and one that captures its own: captures that wait, the attention timer as the
mark finds it, a capture cause that stands, and what the mark leaves. -/
def tTimed : List ((Nat × Option Nat × Bool) × Option Nat × Bool × Bool) :=
  [((1, some 3, false), none, false, true), ((1, some 2, false), some 3, false, false), ((0, none, false), some 1, false, false),
    ((7, some 3, false), none, true, false), ((8, none, true), none, true, false)]

/-- R197: the attention timer at a mark whose own frame is captured first. -/
theorem test_w_FlagsCausesAndLines_timer : ∀ x ∈ tTimed,
    let put (s : State) := (s.modCapture fun u => { u with on := true }).modStatus fun u =>
      { u with newCaptures := x.1.1, attnTimer := x.1.2.1, causes := { u.causes with captureCount := x.1.2.2 } }
    let heard := put (tStation 4)
    let own := put (tMarking (tStation 2))
    tTakes heard = true ∧ own.resetHeld = false ∧ own.mode = .joined ∧
      (own.sendingEntry).map (fun y => (y.1, y.2.1.cls)) = some (0, .mark) ∧
      ∀ t ∈ [after (tMark heard) heard, after (.transmissionSuccess (lineBits tOwnMark)) own],
        (t.status.attnTimer, t.status.causes.captureCount, t.status.causes.captureTimer) = x.2 ∧
          t.status.newCaptures = x.1.1 + 1 := by decide +kernel

theorem test_w_EveryStepKeepsTablesSettingsCountersAndCaptures :
    (tStation 4).TablesSound ∧ (tStation 4).SettingsSound ∧ (tStation 4).CountersSound ∧
    ((tStation 4).StartSound ∧ (tStation 4).LoaderSound) ∧
    (tCaptured 5 31).CaptureSound ∧ ∃ t, step { tCaptured 5 31 with pending := [.release 2] } = .next t := by
  refine ⟨?_, ?_, tCounters (by decide +kernel), ?_, tCaptureSound 31 (by decide +kernel), ⟨_, rfl⟩⟩
  · unfold State.TablesSound; decide +kernel
  · unfold State.SettingsSound; decide +kernel
  · unfold State.StartSound State.LoaderSound; decide +kernel

end Sys2Proof.Tests
end

section
/-! SUPPORT. The codes and lengths of frames on the line (R4, R5, section 12.1), and the statement on the five kinds of
frame (O5). -/

namespace Sys2Proof

/-! ### Role codes read back (12.5) -/

/-- A byte names a role just when it is that role's code. -/
theorem Role.ofCode_eq_some_iff {b : Byte} {r : Role} : Role.ofCode b = some r ↔ b = r.code := by
  constructor
  · intro h
    unfold Role.ofCode at h
    split at h <;> cases h <;> exact BitVec.eq_of_toNat_eq ‹_›
  · rintro rfl
    cases r <;> rfl

end Sys2Proof

namespace Sys2Proof.Machine

/-! ### The format check by class (R5, R9) -/

/-- A header byte 0 names a class just when it is that class's header. -/
theorem classOfHeader_eq_some_iff {b : Byte} {c : FrameClass} : classOfHeader b = some c ↔ b = classHeader c := by
  constructor
  · intro h
    unfold classOfHeader at h
    split at h <;> cases h <;> exact BitVec.eq_of_toNat_eq ‹_›
  · rintro rfl
    cases c <;> rfl

/-- The bodies that the table of R5 allows a class. -/
def legalBody (body : List Byte) : FrameClass → Prop
  | .mark | .reply => body.length = 4
  | .ask => body.length = 5
  | .essential | .info => body.length = 6
  | .state => ∃ r : Role, byteAt body 4 = r.code ∧ stateBodyLength r (byteAt body 5).toNat = some body.length

/-- The lengths of a STATE body lie between the CONSOLE's and that of a PLATFORM with a full zone. -/
theorem stateBodyLength_bounds {r : Role} {n k : Nat} (h : stateBodyLength r n = some k) : 6 ≤ k ∧ k ≤ 19 := by
  cases r with
  | platform =>
    obtain ⟨_, rfl⟩ : n ≤ 3 ∧ 10 + 3 * n = k := by simpa [stateBodyLength] using h
    omega
  | absent => cases h
  | console | drive | mast | cabin =>
    cases h
    omega

/-- No class allows a body above 19 bytes. -/
theorem legalBody_length_le {body : List Byte} {c : FrameClass} (h : legalBody body c) : body.length ≤ 19 := by
  cases c with
  | state =>
    obtain ⟨_, -, len⟩ := h
    exact (stateBodyLength_bounds len).2
  | mark | reply | ask | essential | info =>
    simp only [legalBody] at h
    omega

/-- The check of a frame whose header names a class is that of the class. That a STATE body must reach its role code
adds nothing to the lengths of the table. -/
theorem formatOk_of_class {f : Frame} {c : FrameClass} (h : classOfHeader f.header = some c) :
    formatOk f = true ↔ legalBody f.body c := by
  cases c with
  | mark | reply | ask | essential | info => simp [formatOk, h, legalBody]
  | state =>
    simp only [formatOk, h, legalBody, ← Role.ofCode_eq_some_iff]
    cases Role.ofCode (byteAt f.body 4) with
    | none => simp
    | some r =>
      have enough : stateBodyLength r (byteAt f.body 5).toNat = some f.body.length → 5 ≤ f.body.length := by
        intro len
        have := stateBodyLength_bounds len
        omega
      simpa using enough

/-- The format check asks for the header of a class, and a body that this class allows. -/
theorem formatOk_iff (f : Frame) :
    formatOk f = true ↔ ∃ c : FrameClass, f.header = classHeader c ∧ legalBody f.body c := by
  constructor
  · intro h
    cases named : classOfHeader f.header with
    | none => simp [formatOk, named] at h
    | some c => exact ⟨c, classOfHeader_eq_some_iff.mp named, (formatOk_of_class named).mp h⟩
  · rintro ⟨c, header, body⟩
    exact (formatOk_of_class (classOfHeader_eq_some_iff.mpr header)).mpr body

/-- The rows of R5 for a STATE body, one for each role that sends one. -/
theorem legalBody_state_iff (body : List Byte) :
    legalBody body .state ↔
      byteAt body 4 = Role.console.code ∧ body.length = 6 ∨
        byteAt body 4 = Role.drive.code ∧ body.length = 9 ∨
        byteAt body 4 = Role.mast.code ∧ body.length = 11 ∨
        byteAt body 4 = Role.cabin.code ∧ body.length = 12 ∨
        byteAt body 4 = Role.platform.code ∧ (byteAt body 5).toNat ≤ 3 ∧
          body.length = 10 + 3 * (byteAt body 5).toNat := by
  constructor
  · rintro ⟨r, code, len⟩
    cases r with
    | console => exact .inl ⟨code, (Option.some.inj len).symm⟩
    | drive => exact .inr (.inl ⟨code, (Option.some.inj len).symm⟩)
    | mast => exact .inr (.inr (.inl ⟨code, (Option.some.inj len).symm⟩))
    | cabin => exact .inr (.inr (.inr (.inl ⟨code, (Option.some.inj len).symm⟩)))
    | platform =>
      obtain ⟨few, len⟩ : (byteAt body 5).toNat ≤ 3 ∧ 10 + 3 * (byteAt body 5).toNat = body.length := by
        simpa [stateBodyLength] using len
      exact .inr (.inr (.inr (.inr ⟨code, few, len.symm⟩)))
    | absent => cases len
  · rintro (⟨code, len⟩ | ⟨code, len⟩ | ⟨code, len⟩ | ⟨code, len⟩ | ⟨code, few, len⟩)
    · exact ⟨.console, code, congrArg some len.symm⟩
    · exact ⟨.drive, code, congrArg some len.symm⟩
    · exact ⟨.mast, code, congrArg some len.symm⟩
    · exact ⟨.cabin, code, congrArg some len.symm⟩
    · exact ⟨.platform, code, by simp [stateBodyLength, few, len]⟩

/-- The table of R5 by header code. -/
theorem formatOk_iff_table (f : Frame) :
    formatOk f = true ↔
      (f.header = 0x11 ∨ f.header = 0x52) ∧ f.body.length = 4 ∨
      f.header = 0x44 ∧ f.body.length = 5 ∨
      (f.header = 0x35 ∨ f.header = 0x36) ∧ f.body.length = 6 ∨
      f.header = 0x23 ∧ legalBody f.body .state := by
  rw [formatOk_iff]
  constructor
  · rintro ⟨c, header, body⟩
    cases c with
    | mark => exact .inl ⟨.inl header, body⟩
    | reply => exact .inl ⟨.inr header, body⟩
    | ask => exact .inr (.inl ⟨header, body⟩)
    | essential => exact .inr (.inr (.inl ⟨.inl header, body⟩))
    | info => exact .inr (.inr (.inl ⟨.inr header, body⟩))
    | state => exact .inr (.inr (.inr ⟨header, body⟩))
  · rintro (⟨header | header, body⟩ | ⟨header, body⟩ | ⟨header | header, body⟩ | ⟨header, body⟩)
    · exact ⟨.mark, header, body⟩
    · exact ⟨.reply, header, body⟩
    · exact ⟨.ask, header, body⟩
    · exact ⟨.essential, header, body⟩
    · exact ⟨.info, header, body⟩
    · exact ⟨.state, header, body⟩

/-- A frame that passes the format check has at most 19 body bytes. -/
theorem formatOk_body_le {f : Frame} (h : formatOk f = true) : f.body.length ≤ 19 := by
  obtain ⟨c, -, body⟩ := (formatOk_iff f).mp h
  exact legalBody_length_le body

/-! ### Bytes on the line (R4) -/

@[simp] theorem wordBytes_length (w : Word) : (wordBytes w).length = 2 := rfl

/-- Sync byte, header of four bytes and CRC of two stand beside the body. -/
@[simp] theorem frameBytes_length (header sender round : Byte) (body : List Byte) :
    (frameBytes header sender round body).length = 7 + body.length := by
  simp only [frameBytes, frameContent, List.length_append, List.length_cons, List.length_nil, wordBytes_length]
  omega

/-! ### The parts of a STATE body (12.1) -/

theorem Statement.bytes_eq (b : Statement) (congested : Bool) :
    b.bytes congested = [b.vote] ++ wordBytes b.reasons ++ [if congested then 1 else 0] ++ b.role.code :: b.fields := by
  simp [Statement.bytes, bitByte]

@[simp] theorem Statement.bytes_length (b : Statement) (congested : Bool) :
    (b.bytes congested).length = 5 + b.fields.length := by
  simp only [Statement.bytes, List.length_append, List.length_cons, List.length_nil, wordBytes_length]

/-- The fields of the role body begin at byte 5. -/
theorem Statement.byteAt_bytes_fields (b : Statement) (congested : Bool) (i : Nat) :
    byteAt (b.bytes congested) (i + 5) = byteAt b.fields i := rfl

/-! ### The role body of a PLATFORM (R103) -/

@[simp] theorem ZoneEntry.bytes_length (e : ZoneEntry) : e.bytes.length = 3 := rfl

/-- The entries of a zone take three bytes each. -/
theorem zoneBytes_length (zone : List ZoneEntry) : (zone.flatMap ZoneEntry.bytes).length = 3 * zone.length := by
  induction zone with
  | nil => rfl
  | cons e rest ih =>
    rw [List.flatMap_cons, List.length_append, ZoneEntry.bytes_length, ih, List.length_cons]
    omega

/-- Five fields stand before the zone entries. -/
theorem State.platformFields_length (s : State) : s.platformFields.length = 5 + 3 * s.platform.zone.length := by
  rw [← zoneBytes_length]
  exact Nat.add_comm _ 5

/-- The first field is the zone entry count. -/
theorem State.byteAt_platformFields_zero (s : State) :
    byteAt s.platformFields 0 = BitVec.ofNat 8 s.platform.zone.length := rfl

theorem State.ownStatement_fields_of_platform {s : State} (h : s.role = .platform) :
    s.ownStatement.fields = s.platformFields := by
  simp [State.ownStatement, h]

/-- The count and the length of a PLATFORM's STATE body, where the count fits its byte. -/
theorem State.ownStatement_bytes_of_platform {s : State} (h : s.role = .platform) (few : s.platform.zone.length < 256)
    (congested : Bool) :
    (byteAt (s.ownStatement.bytes congested) 5).toNat = s.platform.zone.length ∧
      (s.ownStatement.bytes congested).length = 10 + 3 * s.platform.zone.length := by
  have fields := State.ownStatement_fields_of_platform h
  constructor
  · rw [Statement.byteAt_bytes_fields _ _ 0, fields, State.byteAt_platformFields_zero, BitVec.toNat_ofNat]
    exact Nat.mod_eq_of_lt few
  · rw [Statement.bytes_length, fields, State.platformFields_length]
    omega

/-- Settles O5: the table by class, then the lengths of a frame and the parts of a STATE body. -/
theorem formatCheckIsTheTableOfLegalFrames : Obligations.FormatCheckIsTheTableOfLegalFrames := by
  refine ⟨fun f => ?_, fun header sender round body => ⟨frameBytes_length .., lineBits_length _, fun legal => ?_⟩,
    Statement.bytes_eq, fun s platform few => State.ownStatement_bytes_of_platform platform (by omega) _⟩
  · rw [formatOk_iff_table, legalBody_state_iff]
  · have short : body.length ≤ 19 := formatOk_body_le legal
    rw [frameBytes_length]
    omega

end Sys2Proof.Machine
end

section
/-! SUPPORT. The Configuration Loader's checks of an image (R178 to R180, R200), and the statement on the first that
fails (O51). -/

namespace Sys2Proof

/-! ### Codes that a byte of the image may hold (12.5) -/

theorem Role.code_toNat_inj {r q : Role} : r.code.toNat = q.code.toNat ↔ r = q := by
  constructor
  · intro same
    have code : r.code = q.code := BitVec.eq_of_toNat_eq same
    exact Option.some.inj ((Role.ofCode_eq_some_iff.mpr code.symm).symm.trans (Role.ofCode_eq_some_iff.mpr rfl))
  · rintro rfl
    rfl

theorem Role.ofCode_ofNat_eq_some_iff {b : Nat} (small : b < 256) {r : Role} :
    Role.ofCode (BitVec.ofNat 8 b) = some r ↔ b = r.code.toNat := by
  rw [Role.ofCode_eq_some_iff, ← BitVec.toNat_inj, BitVec.toNat_ofNat, Nat.mod_eq_of_lt small]

theorem Role.ofCode_isSome_iff (b : Byte) : (Role.ofCode b).isSome = true ↔ b.toNat ≤ 5 := by
  unfold Role.ofCode
  split <;> simp_all
  omega

theorem Level.ofCode_isSome_iff (b : Byte) : (Level.ofCode b).isSome = true ↔ b.toNat ≤ 3 := by
  unfold Level.ofCode
  split <;> simp_all
  omega

theorem NoticeKind.ofCode_isSome_iff (b : Byte) :
    (NoticeKind.ofCode b).isSome = true ↔ 1 ≤ b.toNat ∧ b.toNat ≤ 13 := by
  unfold NoticeKind.ofCode
  split <;> simp_all
  omega

theorem AskKind.ofCode_isSome_iff (b : Byte) :
    (AskKind.ofCode b).isSome = true ↔ 1 ≤ b.toNat ∧ b.toNat ≤ 8 := by
  unfold AskKind.ofCode
  split <;> simp_all
  omega

end Sys2Proof

namespace Sys2Proof.Machine

theorem periodOfCode_isSome_iff (n : Nat) : (periodOfCode n).isSome = true ↔ n ≤ 3 := by
  unfold periodOfCode
  split <;> simp_all
  omega

/-! ### Bytes of a whole image (R177) -/

/-- Byte `i` of the image as a number. -/
def imageAt (image : List Byte) (i : Nat) : Nat := (image.getD i 0).toNat

theorem imageAt_lt (image : List Byte) (i : Nat) : imageAt image i < 256 := (image.getD i 0).isLt

/-- In a whole image no byte is missing, so it does not matter what a missing one would read as. -/
theorem imageByte_eq {image : List Byte} (whole : image.length = 256) {i : Nat} (inside : i < 256) :
    imageByte image i = imageAt image i := by
  have here : i < image.length := whole.symm ▸ inside
  simp [imageByte, imageAt, List.getD_eq_getElem?_getD, List.getElem?_eq_getElem here]

theorem imageWord_eq {image : List Byte} (whole : image.length = 256) {i : Nat} (inside : i < 255) :
    imageWord image i = imageAt image i * 256 + imageAt image (i + 1) := by
  rw [imageWord, imageByte_eq whole (by omega), imageByte_eq whole (by omega)]

/-! ### The entry of a station (R179) -/

/-- The three bytes of station `n`: its role code, its cabin index and its mark rank (R200). -/
def roleByte (image : List Byte) (n : Nat) : Nat := imageAt image (1 + 3 * n)

def cabinIndexByte (image : List Byte) (n : Nat) : Nat := imageAt image (2 + 3 * n)

def rankByte (image : List Byte) (n : Nat) : Nat := imageAt image (3 + 3 * n)

theorem roleByte_lt (image : List Byte) (n : Nat) : roleByte image n < 256 := imageAt_lt image _

/-- A cabin index or rank, FFh for none (R200). -/
def optionalByte (b : Nat) : Option Nat := if b = 255 then none else some b

/-- FFh is no value. -/
theorem optionalByte_beq_some (b : Nat) {v : Nat} (value : v ≠ 255) : (optionalByte b == some v) = (b == v) := by
  unfold optionalByte
  split
  · next none => simpa [none] using Ne.symm value
  · rfl

/-- The rows of R179's table for the entry of station `n`: CABIN, ABSENT, and the other roles. -/
def EntryFormed (image : List Byte) (n : Nat) : Prop :=
  roleByte image n = 1 ∧ cabinIndexByte image n ≤ 47 ∧ rankByte image n = 255 ∨
    roleByte image n = 0 ∧ cabinIndexByte image n = 255 ∧ rankByte image n = 255 ∨
    2 ≤ roleByte image n ∧ roleByte image n ≤ 5 ∧ cabinIndexByte image n = 255 ∧
      (rankByte image n ≤ 7 ∨ rankByte image n = 255)

theorem EntryFormed.rank {image : List Byte} {n : Nat} (formed : EntryFormed image n) :
    rankByte image n ≤ 7 ∨ rankByte image n = 255 := by
  obtain ⟨-, -, none⟩ | ⟨-, -, none⟩ | ⟨-, -, -, rank⟩ := formed
  · exact .inr none
  · exact .inr none
  · exact rank

/-- What `imageEntry` reads for station `n`. -/
theorem imageEntry_reads {image : List Byte} (whole : image.length = 256) {n : Nat} (station : n < 64) :
    imageByte image (1 + 3 * n) = roleByte image n ∧
      imageOptional image (2 + 3 * n) = optionalByte (cabinIndexByte image n) ∧
      imageOptional image (3 + 3 * n) = optionalByte (rankByte image n) := by
  refine ⟨imageByte_eq whole (by omega), ?_, ?_⟩
  · rw [imageOptional, imageByte_eq whole (by omega)]
    rfl
  · rw [imageOptional, imageByte_eq whole (by omega)]
    rfl

/-- The table, by whether a cabin index and a rank are given, and then by role. -/
theorem imageEntry_isSome_iff {image : List Byte} (whole : image.length = 256) {n : Nat} (station : n < 64) :
    (imageEntry image n).isSome = true ↔ EntryFormed image n := by
  obtain ⟨role, cabin, rank⟩ := imageEntry_reads whole station
  simp only [imageEntry, role, cabin, rank, optionalByte, EntryFormed]
  have small := roleByte_lt image n
  have known := Role.ofCode_isSome_iff (BitVec.ofNat 8 (roleByte image n))
  rw [BitVec.toNat_ofNat, Nat.mod_eq_of_lt small] at known
  cases named : Role.ofCode (BitVec.ofNat 8 (roleByte image n)) with
  | none =>
    simp only [named, Option.isSome_none, Bool.false_eq_true, false_iff] at known ⊢
    omega
  | some r =>
    have code := (Role.ofCode_ofNat_eq_some_iff small).mp named
    by_cases noCabin : cabinIndexByte image n = 255
    · by_cases noRank : rankByte image n = 255
      · cases r <;> simp [code, Role.code, noCabin, noRank]
      · cases r <;> simp [code, Role.code, noCabin, noRank]
    · by_cases noRank : rankByte image n = 255
      · cases r <;> simp [code, Role.code, noCabin, noRank]
      · cases r <;> simp [code, Role.code, noCabin, noRank]

/-- An entry that is read holds its role, its cabin index and its rank as given. -/
theorem imageEntry_fields {image : List Byte} {n : Nat} {e : RosterEntry} (h : imageEntry image n = some e) :
    Role.ofCode (BitVec.ofNat 8 (imageByte image (1 + 3 * n))) = some e.role ∧
      e.cabin = imageOptional image (2 + 3 * n) ∧ e.rank = imageOptional image (3 + 3 * n) := by
  simp only [imageEntry] at h
  split at h
  · cases h
  · split at h
    · split at h
      · cases h
        simp [*]
      · cases h
    · cases h
  · split at h
    · cases h
      simp [*, RosterEntry.absent]
    · cases h
  · split at h
    · cases h
      simp [*]
    · split at h
      · cases h
        simp [*]
      · cases h
    · cases h

/-! ### The roster, where every entry is well formed (R179) -/

def RosterFormed (image : List Byte) : Prop := ∀ n : Nat, n < 64 → EntryFormed image n

/-- The entry of station `n` in `imageRoster`. -/
def entryAt (image : List Byte) (n : Nat) : RosterEntry := (imageEntry image n).getD RosterEntry.absent

theorem imageRoster_eq (image : List Byte) : imageRoster image = (List.range 64).map (entryAt image) := rfl

theorem entryAt_fields {image : List Byte} (whole : image.length = 256) (formed : RosterFormed image) {n : Nat}
    (station : n < 64) :
    (entryAt image n).role.code.toNat = roleByte image n ∧
      (entryAt image n).cabin = optionalByte (cabinIndexByte image n) ∧
      (entryAt image n).rank = optionalByte (rankByte image n) := by
  obtain ⟨e, he⟩ := Option.isSome_iff_exists.mp ((imageEntry_isSome_iff whole station).mpr (formed n station))
  obtain ⟨roleRead, cabinRead, rankRead⟩ := imageEntry_reads whole station
  obtain ⟨role, cabin, rank⟩ := imageEntry_fields he
  rw [roleRead, Role.ofCode_ofNat_eq_some_iff (roleByte_lt image n)] at role
  rw [entryAt, he, Option.getD_some]
  exact ⟨role.symm, cabin.trans cabinRead, rank.trans rankRead⟩

theorem firstStation_eq_some_iff (test : Nat → Bool) (n : Nat) :
    firstStation test = some n ↔ n < 64 ∧ test n = true ∧ ∀ m : Nat, m < n → test m = false := by
  simp [firstStation, List.find?_range_eq_some, and_left_comm]

theorem firstStation_eq_none_iff (test : Nat → Bool) :
    firstStation test = none ↔ ∀ n : Nat, n < 64 → test n = false := by
  simp [firstStation]

/-- Entries that pass a test are counted by their bytes. -/
theorem length_filter_imageRoster {image : List Byte} {onEntry : RosterEntry → Bool} {onBytes : Nat → Bool}
    (same : ∀ n : Nat, n < 64 → onEntry (entryAt image n) = onBytes n) :
    ((imageRoster image).filter onEntry).length = ((List.range 64).filter onBytes).length := by
  rw [imageRoster_eq, List.filter_map, List.length_map]
  exact congrArg List.length (List.filter_congr fun n h => same n (List.mem_range.mp h))

/-- The first entry that passes a test is found by its bytes. -/
theorem findIdx?_imageRoster {image : List Byte} {onEntry : RosterEntry → Bool} {onBytes : Nat → Bool}
    (same : ∀ n : Nat, n < 64 → onEntry (entryAt image n) = onBytes n) :
    (imageRoster image).findIdx? onEntry = firstStation onBytes := by
  ext n
  rw [firstStation_eq_some_iff, List.findIdx?_eq_some_iff_getElem]
  simp only [imageRoster_eq, List.length_map, List.length_range, List.getElem_map, List.getElem_range,
    Bool.not_eq_true, exists_prop]
  refine and_congr_right fun station => ?_
  rw [same n station]
  exact and_congr_right fun _ => forall₂_congr fun m before => by rw [same m (Nat.lt_trans before station)]

/-! ### Cabin indices and ranks that two entries share (R179) -/

/-- Two stations hold `v` in a byte of their entries. -/
def Shared (byte : Nat → Nat) (v : Nat) : Prop := ∃ n m : Nat, n < m ∧ m < 64 ∧ byte n = v ∧ byte m = v

/-- The numbers below `k + 1` that pass a test are those below `k`, and `k` itself if it passes. -/
theorem length_filter_range_succ (p : Nat → Bool) (k : Nat) :
    ((List.range (k + 1)).filter p).length = ((List.range k).filter p).length + if p k = true then 1 else 0 := by
  rw [List.range_succ, List.filter_append, List.length_append, List.filter_cons, List.filter_nil]
  split <;> rfl

theorem length_filter_range_pos_iff (p : Nat → Bool) (k : Nat) :
    0 < ((List.range k).filter p).length ↔ ∃ n : Nat, n < k ∧ p n = true := by
  simp only [List.length_pos_iff_exists_mem, List.mem_filter, List.mem_range]

/-- Two of the numbers below `k` pass a test just when two different numbers do. -/
theorem two_le_length_filter_range_iff (p : Nat → Bool) (k : Nat) :
    2 ≤ ((List.range k).filter p).length ↔ ∃ n m : Nat, n < m ∧ m < k ∧ p n = true ∧ p m = true := by
  induction k with
  | zero => exact iff_of_false (Nat.not_succ_le_zero 1) fun ⟨_, m, _, inside, _⟩ => Nat.not_lt_zero m inside
  | succ k ih =>
    rw [length_filter_range_succ]
    split
    · next last =>
      constructor
      · intro two
        obtain ⟨n, inside, hn⟩ := (length_filter_range_pos_iff p k).mp (Nat.lt_of_succ_le (Nat.le_of_succ_le_succ two))
        exact ⟨n, k, inside, Nat.lt_succ_self k, hn, last⟩
      · rintro ⟨n, m, lt, inside, hn, -⟩
        have one := (length_filter_range_pos_iff p k).mpr ⟨n, by omega, hn⟩
        omega
    · next fails =>
      rw [Nat.add_zero, ih]
      refine exists_congr fun n => exists_congr fun m => and_congr_right fun _ => ?_
      constructor
      · rintro ⟨inside, hn, hm⟩
        exact ⟨Nat.lt_succ_of_lt inside, hn, hm⟩
      · rintro ⟨inside, hn, hm⟩
        have ne : m ≠ k := fun same => fails (same ▸ hm)
        exact ⟨by omega, hn, hm⟩

/-- The first value in a list that two entries hold. -/
def firstShared (roster : List RosterEntry) (field : RosterEntry → Option Nat) (values : List Nat) : Option Nat :=
  values.find? fun v => decide (2 ≤ (roster.filter fun e => field e == some v).length)

/-- `sharedBy` takes the first value that two entries hold, and the first entry that holds it. -/
theorem sharedBy_eq_bind (roster : List RosterEntry) (field : RosterEntry → Option Nat) (values : List Nat) :
    sharedBy roster field values =
      (firstShared roster field values).bind fun v => roster.findIdx? fun e => field e == some v := by
  induction values with
  | nil => rfl
  | cons v rest ih =>
    rw [sharedBy, firstShared, List.find?_cons]
    split
    · next two => simp [two]
    · next few => simpa [few, firstShared] using ih

section
variable {image : List Byte} {field : RosterEntry → Option Nat} {byte : Nat → Nat}
  (reads : ∀ n : Nat, n < 64 → field (entryAt image n) = optionalByte (byte n))
include reads

theorem two_le_sharers_iff {v : Nat} (value : v ≠ 255) :
    2 ≤ ((imageRoster image).filter fun e => field e == some v).length ↔ Shared byte v := by
  have same : ∀ n : Nat, n < 64 → (field (entryAt image n) == some v) = (byte n == v) := fun n station => by
    rw [reads n station, optionalByte_beq_some _ value]
  rw [length_filter_imageRoster same, two_le_length_filter_range_iff]
  simp [Shared]

theorem findIdx?_sharer {v : Nat} (value : v ≠ 255) :
    ((imageRoster image).findIdx? fun e => field e == some v) = firstStation fun n => byte n == v :=
  findIdx?_imageRoster fun n station => by rw [reads n station, optionalByte_beq_some _ value]

theorem firstShared_eq_some_iff {k : Nat} (values : k ≤ 255) (v : Nat) :
    firstShared (imageRoster image) field (List.range k) = some v ↔
      v < k ∧ Shared byte v ∧ ∀ w : Nat, w < v → ¬ Shared byte w := by
  rw [firstShared, List.find?_range_eq_some, List.mem_range, and_left_comm]
  refine and_congr_right fun inside => and_congr ?_ (forall₂_congr fun w lower => ?_)
  · rw [decide_eq_true_iff, two_le_sharers_iff reads (by omega)]
  · rw [Bool.not_eq_true', decide_eq_false_iff_not, two_le_sharers_iff reads (by omega)]

theorem firstShared_eq_none_iff {k : Nat} (values : k ≤ 255) :
    firstShared (imageRoster image) field (List.range k) = none ↔ ∀ v : Nat, v < k → ¬ Shared byte v := by
  rw [firstShared, List.find?_range_eq_none]
  refine forall₂_congr fun v inside => ?_
  rw [Bool.not_eq_true', decide_eq_false_iff_not, two_le_sharers_iff reads (by omega)]

theorem sharedBy_eq_none_iff {k : Nat} (values : k ≤ 255) :
    sharedBy (imageRoster image) field (List.range k) = none ↔ ∀ v : Nat, v < k → ¬ Shared byte v := by
  rw [sharedBy_eq_bind, ← firstShared_eq_none_iff reads values, Option.bind_eq_none_iff,
    Option.eq_none_iff_forall_ne_some]
  refine forall_congr' fun v => ⟨fun absent found => ?_, fun unfound found => absurd found unfound⟩
  obtain ⟨inside, ⟨n, m, lt, station, holds, -⟩, -⟩ := (firstShared_eq_some_iff reads values v).mp found
  have nobody := absent found
  rw [findIdx?_sharer reads (by omega), firstStation_eq_none_iff] at nobody
  simpa [holds] using nobody n (Nat.lt_trans lt station)

theorem sharedBy_eq_some {k : Nat} (values : k ≤ 255) {n : Nat} (station : n < 64) (inside : byte n < k)
    (shared : Shared byte (byte n)) (lowest : ∀ v : Nat, v < byte n → ¬ Shared byte v)
    (first : ∀ m : Nat, m < n → byte m ≠ byte n) :
    sharedBy (imageRoster image) field (List.range k) = some n := by
  rw [sharedBy_eq_bind, (firstShared_eq_some_iff reads values _).mpr ⟨inside, shared, lowest⟩, Option.bind_some,
    findIdx?_sharer reads (by omega), firstStation_eq_some_iff]
  exact ⟨station, beq_self_eq_true _, fun m before => beq_false_of_ne (first m before)⟩

end

/-! ### Counts of the roles, the own entry, and a rank at all (R179) -/

/-- Entries with role code `r`. -/
def roleEntries (image : List Byte) (r : Nat) : Nat := ((List.range 64).filter fun n => roleByte image n == r).length

/-- The limits of R179 for the entries with role code `r`. -/
def RoleInLimits (image : List Byte) (r : Nat) : Prop :=
  (r = 1 → 1 ≤ roleEntries image 1 ∧ roleEntries image 1 ≤ 48) ∧ (r = 2 → roleEntries image 2 = 1) ∧
    (r = 3 → 1 ≤ roleEntries image 3 ∧ roleEntries image 3 ≤ 4) ∧
    (r = 4 → 1 ≤ roleEntries image 4 ∧ roleEntries image 4 ≤ 3) ∧ (r = 5 → roleEntries image 5 ≤ 2)

theorem within_iff {lo n hi : Nat} : within lo n hi = true ↔ lo ≤ n ∧ n ≤ hi := by
  rw [within, Bool.and_eq_true, decide_eq_true_iff, decide_eq_true_iff]

theorem not_not_within_iff {lo n hi : Nat} : ¬ (!within lo n hi) = true ↔ lo ≤ n ∧ n ≤ hi := by
  rw [Bool.not_eq_true', Bool.not_eq_false, within_iff]

theorem not_bne_iff {n m : Nat} : ¬ (n != m) = true ↔ n = m := by
  rw [bne_iff_ne, ne_eq, Decidable.not_not]

/-- In a chain of tests nothing fails just when no test does. -/
theorem ite_some_eq_none_iff {α : Type} {c : Prop} [Decidable c] {a : α} {rest : Option α} :
    (if c then some a else rest) = none ↔ ¬ c ∧ rest = none := by
  split
  · next fails => exact iff_of_false (Option.some_ne_none a) fun both => both.1 fails
  · next passes => exact (and_iff_right passes).symm

/-- What a chain of tests answers is the answer of one that fails. -/
theorem ite_some_eq_some {α : Type} {c : Prop} [Decidable c] {a b : α} {rest : Option α}
    (h : (if c then some a else rest) = some b) : c ∧ a = b ∨ rest = some b := by
  split at h
  · next fails => exact .inl ⟨fails, Option.some.inj h⟩
  · exact .inr h

/-- A station carries a mark rank. -/
def Marked (image : List Byte) : Prop := ∃ n : Nat, n < 64 ∧ rankByte image n ≤ 7

section
variable {image : List Byte} (whole : image.length = 256) (formed : RosterFormed image)
include whole formed

theorem roleCount_imageRoster (role : Role) :
    roleCount (imageRoster image) role = roleEntries image role.code.toNat := by
  refine length_filter_imageRoster fun n station => ?_
  obtain ⟨code, -, -⟩ := entryAt_fields whole formed station
  rw [← code, Bool.eq_iff_iff, beq_iff_eq, beq_iff_eq, Role.code_toNat_inj]

theorem roleInLimits_of_roleOutOfLimits_eq_none (inside : roleOutOfLimits (imageRoster image) = none) (r : Nat) :
    RoleInLimits image r := by
  simp only [roleOutOfLimits, roleCount_imageRoster whole formed, ite_some_eq_none_iff, not_not_within_iff,
    not_bne_iff] at inside
  obtain ⟨cabins, platforms, drives, masts, consoles, -⟩ := inside
  exact ⟨fun _ => cabins, fun _ => platforms, fun _ => drives, fun _ => masts, fun _ => consoles.2⟩

theorem not_roleInLimits_of_roleOutOfLimits {role : Role} (out : roleOutOfLimits (imageRoster image) = some role) :
    ¬ RoleInLimits image role.code.toNat := by
  rw [roleOutOfLimits] at out
  simp only [roleCount_imageRoster whole formed] at out
  rintro ⟨cabin, platform, drive, mast, console⟩
  obtain ⟨cabins, rfl⟩ | out := ite_some_eq_some out
  · exact not_not_within_iff.mpr (cabin rfl) cabins
  obtain ⟨platforms, rfl⟩ | out := ite_some_eq_some out
  · exact not_bne_iff.mpr (platform rfl) platforms
  obtain ⟨drives, rfl⟩ | out := ite_some_eq_some out
  · exact not_not_within_iff.mpr (drive rfl) drives
  obtain ⟨masts, rfl⟩ | out := ite_some_eq_some out
  · exact not_not_within_iff.mpr (mast rfl) masts
  obtain ⟨consoles, rfl⟩ | out := ite_some_eq_some out
  · exact not_not_within_iff.mpr ⟨Nat.zero_le _, console rfl⟩ consoles
  · cases out

theorem roleOutOfLimits_eq_none_iff :
    roleOutOfLimits (imageRoster image) = none ↔ ∀ r : Nat, RoleInLimits image r := by
  refine ⟨roleInLimits_of_roleOutOfLimits_eq_none whole formed, fun limits => ?_⟩
  cases out : roleOutOfLimits (imageRoster image) with
  | none => rfl
  | some role => exact absurd (limits _) (not_roleInLimits_of_roleOutOfLimits whole formed out)

theorem ownRole_eq_absent_iff {n : Nat} (station : n < 64) :
    ((imageRoster image).getD n RosterEntry.absent).role = .absent ↔ roleByte image n = 0 := by
  have own : (imageRoster image).getD n RosterEntry.absent = entryAt image n := by
    simp [imageRoster_eq, List.getD_eq_getElem?_getD, station]
  obtain ⟨code, -, -⟩ := entryAt_fields whole formed station
  rw [own, ← code, ← Role.code_toNat_inj]
  rfl

theorem noRank_iff_not_marked : ((imageRoster image).all fun e => e.rank.isNone) = true ↔ ¬ Marked image := by
  simp only [imageRoster_eq, List.all_map, List.all_eq_true, List.mem_range, Function.comp_apply, Marked, not_exists,
    not_and]
  refine forall₂_congr fun n station => ?_
  obtain ⟨-, -, rank⟩ := entryAt_fields whole formed station
  rw [rank, optionalByte]
  split
  · next none => simp [none]
  · next given => simpa using (formed n station).rank.resolve_right given

end

/-! ### Default selectors (R180, R200) -/

/-- The kind of a selector: `none` for no kind, `some none` for ANY. -/
def selectorKind (kind : Byte) : Option (Option FrameKind) :=
  match kind.toNat with
  | 0x0E => some none
  | 1 => some (some .mark)
  | 2 => some (some .state)
  | 3 => some (some .notice)
  | 4 => some (some .ask)
  | 5 => some (some .reply)
  | _ => none

/-- The sender of a selector: `none` for no sender, `some none` for ANY. -/
def selectorSender (sender : Byte) : Option (Option Nat) :=
  if sender = 0xFE then some none else if sender.toNat ≤ 63 then some (some sender.toNat) else none

/-- The subkind of a selector of a kind: `none` for no subkind, `some none` for ANY. -/
def selectorSubkind (kind : Option (Option FrameKind)) (subkind : Byte) : Option (Option Nat) :=
  if subkind = 0xFE then some none
  else
    match kind with
    | some (some .notice) => (NoticeKind.ofCode subkind).map fun _ => some subkind.toNat
    | some (some .ask) => (AskKind.ofCode subkind).map fun _ => some subkind.toNat
    | some (some .mark) | some (some .state) | some (some .reply) | some none | none => none

theorem selectorKind_isSome_iff (kind : Byte) :
    (selectorKind kind).isSome = true ↔ 1 ≤ kind.toNat ∧ kind.toNat ≤ 5 ∨ kind.toNat = 14 := by
  unfold selectorKind
  split <;> simp_all
  omega

theorem selectorKind_eq_notice_iff (kind : Byte) : selectorKind kind = some (some .notice) ↔ kind.toNat = 3 := by
  unfold selectorKind
  split <;> simp_all

theorem selectorKind_eq_ask_iff (kind : Byte) : selectorKind kind = some (some .ask) ↔ kind.toNat = 4 := by
  unfold selectorKind
  split <;> simp_all

theorem selectorSender_isSome_iff (sender : Byte) :
    (selectorSender sender).isSome = true ↔ sender.toNat ≤ 63 ∨ sender.toNat = 254 := by
  have any : sender = 0xFE ↔ sender.toNat = 254 := BitVec.toNat_inj.symm
  unfold selectorSender
  split
  · simp [any.mp ‹_›]
  · split <;> simp_all

theorem selectorSubkind_isSome_iff (kind : Option (Option FrameKind)) (subkind : Byte) :
    (selectorSubkind kind subkind).isSome = true ↔
      subkind.toNat = 254 ∨ kind = some (some .notice) ∧ 1 ≤ subkind.toNat ∧ subkind.toNat ≤ 13 ∨
        kind = some (some .ask) ∧ 1 ≤ subkind.toNat ∧ subkind.toNat ≤ 8 := by
  have any : subkind = 0xFE ↔ subkind.toNat = 254 := BitVec.toNat_inj.symm
  unfold selectorSubkind
  split
  · simp [any.mp ‹_›]
  · split
    · simp_all [NoticeKind.ofCode_isSome_iff]
    · simp_all [AskKind.ofCode_isSome_iff]
    all_goals simp_all

/-- A selector is judged in its three parts, but for an unused one. -/
theorem readSelector_isSome_iff_parts (kind sender subkind : Byte) :
    (readSelector kind sender subkind).isSome = true ↔
      kind = 0 ∨ (selectorKind kind).isSome = true ∧ (selectorSender sender).isSome = true ∧
        (selectorSubkind (selectorKind kind) subkind).isSome = true := by
  by_cases unused : kind = 0
  · simp [readSelector, unused]
  · have parts : readSelector kind sender subkind =
        match selectorKind kind, selectorSender sender, selectorSubkind (selectorKind kind) subkind with
        | some k, some n, some x => some (some ⟨k, n, x⟩)
        | _, _, _ => none := by
      rw [readSelector, if_neg unused]
      rfl
    rw [parts]
    split
    · next k n x hk hn hx =>
      exact iff_of_true rfl
        (.inr ⟨Option.isSome_of_eq_some hk, Option.isSome_of_eq_some hn, Option.isSome_of_eq_some hx⟩)
    · next missing =>
      refine iff_of_false Bool.false_ne_true ?_
      simp only [Option.isSome_iff_exists]
      rintro (zero | ⟨⟨k, hk⟩, ⟨n, hn⟩, ⟨x, hx⟩⟩)
      · exact unused zero
      · exact missing k n x hk hn hx

theorem readSelector_isSome_iff (kind sender subkind : Byte) :
    (readSelector kind sender subkind).isSome = true ↔
      kind.toNat = 0 ∨ (1 ≤ kind.toNat ∧ kind.toNat ≤ 5 ∨ kind.toNat = 14) ∧
        (sender.toNat ≤ 63 ∨ sender.toNat = 254) ∧
        (subkind.toNat = 254 ∨ kind.toNat = 3 ∧ 1 ≤ subkind.toNat ∧ subkind.toNat ≤ 13 ∨
          kind.toNat = 4 ∧ 1 ≤ subkind.toNat ∧ subkind.toNat ≤ 8) := by
  have unused : kind = 0 ↔ kind.toNat = 0 := BitVec.toNat_inj.symm
  rw [readSelector_isSome_iff_parts, unused, selectorKind_isSome_iff, selectorSender_isSome_iff,
    selectorSubkind_isSome_iff, selectorKind_eq_notice_iff, selectorKind_eq_ask_iff]

/-- The judgement of the selector at byte `i` (R180): left to its default, unused, or each part legal. -/
def SelectorFits (image : List Byte) (i : Nat) : Prop :=
  imageAt image i = 255 ∨ imageAt image i = 0 ∨
    (1 ≤ imageAt image i ∧ imageAt image i ≤ 5 ∨ imageAt image i = 14) ∧
      (imageAt image (i + 1) ≤ 63 ∨ imageAt image (i + 1) = 254) ∧
      (imageAt image (i + 2) = 254 ∨ imageAt image i = 3 ∧ 1 ≤ imageAt image (i + 2) ∧ imageAt image (i + 2) ≤ 13 ∨
        imageAt image i = 4 ∧ 1 ≤ imageAt image (i + 2) ∧ imageAt image (i + 2) ≤ 8)

theorem imageSelector_isSome_iff {image : List Byte} (whole : image.length = 256) {j : Nat} (few : j < 6) :
    (imageSelector image j).isSome = true ↔ SelectorFits image (229 + 3 * j) := by
  have byte : ∀ i : Nat, i < 256 → (BitVec.ofNat 8 (imageByte image i)).toNat = imageAt image i := fun i inside => by
    rw [imageByte_eq whole inside, BitVec.toNat_ofNat, Nat.mod_eq_of_lt (imageAt_lt image i)]
  have kind : imageByte image (229 + 3 * j) = imageAt image (229 + 3 * j) := imageByte_eq whole (by omega)
  have sender : 230 + 3 * j = 229 + 3 * j + 1 := by omega
  have subkind : 231 + 3 * j = 229 + 3 * j + 2 := by omega
  by_cases default : imageAt image (229 + 3 * j) = 255
  · simp [imageSelector, SelectorFits, kind, default]
  · rw [imageSelector, if_neg (kind ▸ default), readSelector_isSome_iff, byte _ (by omega), byte _ (by omega),
      byte _ (by omega), sender, subkind]
    exact (or_iff_right default).symm

/-! ### Settings (R180, R200) -/

/-- A one-byte setting after its replacement. -/
def settingOne (image : List Byte) (i dflt : Nat) : Nat := if imageAt image i = 255 then dflt else imageAt image i

/-- A two-byte setting after its replacement. -/
def settingTwo (image : List Byte) (i dflt : Nat) : Nat :=
  if imageAt image i * 256 + imageAt image (i + 1) = 65535 then dflt
  else imageAt image i * 256 + imageAt image (i + 1)

theorem setting1_eq {image : List Byte} (whole : image.length = 256) {i : Nat} (inside : i < 256) (dflt : Nat) :
    setting1 image i dflt = settingOne image i dflt := by
  rw [setting1, imageByte_eq whole inside, settingOne]

theorem setting2_eq {image : List Byte} (whole : image.length = 256) {i : Nat} (inside : i < 255) (dflt : Nat) :
    setting2 image i dflt = settingTwo image i dflt := by
  rw [setting2, imageWord_eq whole inside, settingTwo]

theorem settingOne_le {image : List Byte} {i dflt : Nat} (byte : dflt ≤ 255) : settingOne image i dflt ≤ 255 := by
  have small := imageAt_lt image i
  rw [settingOne]
  split <;> omega

/-- Every level's code is in range, so a silence vote left to its default fits whatever that is. -/
theorem imageLevel_isSome_iff {image : List Byte} (whole : image.length = 256) {i : Nat} (inside : i < 256)
    (dflt : Level) : (imageLevel image i dflt).isSome = true ↔ settingOne image i 0 ≤ 3 := by
  have small := imageAt_lt image i
  have code : dflt.toNat ≤ 3 := by cases dflt <;> decide
  rw [imageLevel, Level.ofCode_isSome_iff, setting1_eq whole inside, BitVec.toNat_ofNat, settingOne, settingOne]
  split <;> omega

/-- The range of setting `k` of 1 to 31 (R180, section 7.1). -/
def SettingFits (image : List Byte) (k : Nat) : Prop :=
  let one := settingOne image
  let two := settingTwo image
  let watchGust := two 206 120
  let holdGust := two 212 180
  (k = 1 → one 193 1 ≤ 3) ∧ (k = 2 → one 194 10 = 10 ∨ one 194 10 = 20) ∧
  (k = 3 → 2 ≤ one 195 3 ∧ one 195 3 ≤ 6) ∧ (4 ≤ k → k ≤ 8 → one (192 + k) 0 ≤ 3) ∧
  (k = 9 → 1 ≤ one 201 2 ∧ one 201 2 ≤ 4) ∧ (k = 10 → 10 ≤ one 202 20 ∧ one 202 20 ≤ 60) ∧
  (k = 11 → 1 ≤ one 203 25 ∧ one 203 25 ≤ 32) ∧ (k = 12 → 100 ≤ two 204 2400 ∧ two 204 2400 ≤ 4000) ∧
  (k = 13 → 1 ≤ watchGust ∧ watchGust ≤ 500) ∧ (k = 14 → two 208 20 ≤ watchGust) ∧
  (k = 15 → 15 ≤ two 210 60 ∧ two 210 60 ≤ 600) ∧ (k = 16 → watchGust ≤ holdGust ∧ holdGust ≤ 500) ∧
  (k = 17 → 1 ≤ two 214 140 ∧ two 214 140 ≤ 500) ∧ (k = 18 → 1 ≤ two 216 150 ∧ two 216 150 ≤ holdGust) ∧
  (k = 19 → 1 ≤ two 218 110 ∧ two 218 110 ≤ two 214 140) ∧ (k = 20 → 60 ≤ two 220 300 ∧ two 220 300 ≤ 1800) ∧
  (k = 21 → holdGust ≤ two 222 220 ∧ two 222 220 ≤ 500) ∧ (k = 22 → 60 ≤ two 224 600 ∧ two 224 600 ≤ 3600) ∧
  (k = 23 → one 226 4 ≤ 16) ∧ (k = 24 → 1 ≤ one 227 8 ∧ one 227 8 ≤ 32) ∧ (k = 25 → 1 ≤ one 228 4) ∧
  (26 ≤ k → k ≤ 31 → SelectorFits image (229 + 3 * (k - 26)))

/-- Settings 26 to 31 are the selectors. -/
theorem settingFits_selector_iff (image : List Byte) {j : Nat} (few : j < 6) :
    SettingFits image (25 + j + 1) ↔ SelectorFits image (229 + 3 * j) := by
  have place : 25 + j + 1 = j + 26 := by omega
  have last : j + 26 ≤ 31 := by omega
  simp [SettingFits, place, last]

theorem settingChecks_getElem_selector (image : List Byte) {j : Nat} (few : j < 6)
    (h : 25 + j < (settingChecks image).length) :
    (settingChecks image)[25 + j] = (imageSelector image j).isSome := by
  obtain rfl | rfl | rfl | rfl | rfl | rfl : j = 0 ∨ j = 1 ∨ j = 2 ∨ j = 3 ∨ j = 4 ∨ j = 5 := by omega
  all_goals rfl

/-- Each judgement is that of its setting: the six selectors alike, the others one by one. -/
theorem settingChecks_getElem_iff {image : List Byte} (whole : image.length = 256) {k : Nat}
    (h : k < (settingChecks image).length) : (settingChecks image)[k] = true ↔ SettingFits image (k + 1) := by
  have small : k < 31 := h
  by_cases selector : 25 ≤ k
  · obtain ⟨j, rfl⟩ := Nat.exists_eq_add_of_le selector
    rw [settingChecks_getElem_selector image (by omega), imageSelector_isSome_iff whole (by omega),
      settingFits_selector_iff image (by omega)]
  · have timer : settingOne image 228 4 ≤ 255 := settingOne_le (by decide)
    obtain rfl | rfl | rfl | rfl | rfl | rfl | rfl | rfl | rfl | rfl | rfl | rfl | rfl | rfl | rfl | rfl | rfl | rfl |
        rfl | rfl | rfl | rfl | rfl | rfl | rfl :
        k = 0 ∨ k = 1 ∨ k = 2 ∨ k = 3 ∨ k = 4 ∨ k = 5 ∨ k = 6 ∨ k = 7 ∨ k = 8 ∨ k = 9 ∨ k = 10 ∨ k = 11 ∨
          k = 12 ∨ k = 13 ∨ k = 14 ∨ k = 15 ∨ k = 16 ∨ k = 17 ∨ k = 18 ∨ k = 19 ∨ k = 20 ∨ k = 21 ∨ k = 22 ∨
          k = 23 ∨ k = 24 := by
      omega
    all_goals
      simp only [settingChecks, SettingFits, imageSettings, imagePeriod, List.cons_append, List.nil_append,
        List.getElem_cons_succ, List.getElem_cons_zero, Nat.reduceAdd, Nat.reduceEqDiff, Nat.reduceLeDiff,
        Nat.reduceLT, false_implies, true_implies, and_true, true_and, Bool.or_eq_true, beq_iff_eq, within_iff,
        periodOfCode_isSome_iff, imageLevel_isSome_iff whole, setting1_eq whole, setting2_eq whole, timer, Nat.zero_le]

/-! ### The checks one by one (R178 to R180) -/

def versionCheck (image : List Byte) : Option (StartCause × Nat) :=
  if imageByte image 0 ≠ 1 then some (.version, imageByte image 0) else none

def crcCheck (image : List Byte) : Option (StartCause × Nat) :=
  if (crc16 (image.take 254)).toNat ≠ imageWord image 254 then some (.crc, (crc16 (image.take 254)).toNat) else none

def rosterFieldCheck (image : List Byte) : Option (StartCause × Nat) :=
  (firstStation fun n => (imageEntry image n).isNone).map (StartCause.rosterField, ·)

def ownEntryCheck (image : List Byte) (station : Nat) : Option (StartCause × Nat) :=
  if ((imageRoster image).getD station RosterEntry.absent).role = .absent then some (.ownAbsent, station) else none

def roleCountCheck (image : List Byte) : Option (StartCause × Nat) :=
  (roleOutOfLimits (imageRoster image)).map fun role => (.roleCount, role.code.toNat)

def cabinIndexCheck (image : List Byte) : Option (StartCause × Nat) :=
  (sharedBy (imageRoster image) RosterEntry.cabin (List.range 48)).map (StartCause.cabinIndex, ·)

def rankCheck (image : List Byte) : Option (StartCause × Nat) :=
  (sharedBy (imageRoster image) RosterEntry.rank (List.range 8)).map (StartCause.rank, ·)

def markerCheck (image : List Byte) : Option (StartCause × Nat) :=
  if (imageRoster image).all fun e => e.rank.isNone then some (.noMarker, 0) else none

def rangeCheck (image : List Byte) : Option (StartCause × Nat) :=
  ((settingChecks image).findIdx? fun ok => !ok).map fun k => (.range, k + 1)

/-- The judgement of an image is the first failure among its checks. -/
theorem imageFailure_eq_first (image : List Byte) (station : Nat) :
    imageFailure image station =
      (versionCheck image).or ((crcCheck image).or ((rosterFieldCheck image).or ((ownEntryCheck image station).or
        ((roleCountCheck image).or ((cabinIndexCheck image).or ((rankCheck image).or
          ((markerCheck image).or (rangeCheck image)))))))) := by
  simp only [imageFailure, versionCheck, crcCheck, rosterFieldCheck, ownEntryCheck, roleCountCheck, cabinIndexCheck,
    rankCheck, markerCheck, rangeCheck]
  split
  · rfl
  · split
    · rfl
    · split
      · simp [*]
      · split
        · simp [*]
        · split
          · simp [*]
          · simp [*]
          · simp [*]
          · split <;> simp [*]

section
variable {image : List Byte} (whole : image.length = 256)
include whole

theorem versionCheck_eq_none_iff : versionCheck image = none ↔ imageAt image 0 = 1 := by
  simp [versionCheck, imageByte_eq whole]

theorem versionCheck_eq_some (wrong : imageAt image 0 ≠ 1) :
    versionCheck image = some (.version, imageAt image 0) := by
  simp [versionCheck, imageByte_eq whole, wrong]

theorem crcCheck_eq_none_iff :
    crcCheck image = none ↔ (crc16 (image.take 254)).toNat = imageAt image 254 * 256 + imageAt image 255 := by
  simp [crcCheck, imageWord_eq whole]

theorem crcCheck_eq_some (wrong : (crc16 (image.take 254)).toNat ≠ imageAt image 254 * 256 + imageAt image 255) :
    crcCheck image = some (.crc, (crc16 (image.take 254)).toNat) := by
  simp [crcCheck, imageWord_eq whole, wrong]

theorem imageEntry_isNone_eq_false_iff {n : Nat} (station : n < 64) :
    (imageEntry image n).isNone = false ↔ EntryFormed image n := by
  rw [← imageEntry_isSome_iff whole station]
  cases imageEntry image n with
  | none => decide
  | some e => exact iff_of_true rfl rfl

theorem rosterFieldCheck_eq_none_iff : rosterFieldCheck image = none ↔ RosterFormed image := by
  rw [rosterFieldCheck, Option.map_eq_none_iff, firstStation_eq_none_iff]
  exact forall₂_congr fun n station => imageEntry_isNone_eq_false_iff whole station

theorem rosterFieldCheck_eq_some {n : Nat} (station : n < 64) (bad : ¬ EntryFormed image n)
    (first : ∀ m : Nat, m < n → EntryFormed image m) : rosterFieldCheck image = some (.rosterField, n) := by
  have fails : (imageEntry image n).isNone = true :=
    (Bool.not_eq_false _).mp (mt (imageEntry_isNone_eq_false_iff whole station).mp bad)
  have found : firstStation (fun n => (imageEntry image n).isNone) = some n :=
    (firstStation_eq_some_iff _ n).mpr ⟨station, fails, fun m before =>
      (imageEntry_isNone_eq_false_iff whole (Nat.lt_trans before station)).mpr (first m before)⟩
  rw [rosterFieldCheck, found, Option.map_some]

theorem rangeCheck_eq_none_iff : rangeCheck image = none ↔ ∀ k : Nat, 1 ≤ k → k ≤ 31 → SettingFits image k := by
  rw [rangeCheck, Option.map_eq_none_iff, List.findIdx?_eq_none_iff]
  constructor
  · intro all k low high
    obtain ⟨i, rfl⟩ := Nat.exists_eq_add_of_le' low
    have here : i < (settingChecks image).length := high
    exact (settingChecks_getElem_iff whole here).mp (by simpa using all _ (List.getElem_mem here))
  · intro fits ok listed
    obtain ⟨i, here, rfl⟩ := List.getElem_of_mem listed
    simpa using (settingChecks_getElem_iff whole here).mpr (fits _ i.succ_pos here)

theorem rangeCheck_eq_some {k : Nat} (low : 1 ≤ k) (high : k ≤ 31) (bad : ¬ SettingFits image k)
    (first : ∀ j : Nat, 1 ≤ j → j < k → SettingFits image j) : rangeCheck image = some (.range, k) := by
  obtain ⟨i, rfl⟩ := Nat.exists_eq_add_of_le' low
  have here : i < (settingChecks image).length := high
  have found : ((settingChecks image).findIdx? fun ok => !ok) = some i := by
    refine List.findIdx?_eq_some_iff_getElem.mpr ⟨here, ?_, fun j before => ?_⟩
    · simpa using mt (settingChecks_getElem_iff whole here).mp bad
    · simpa using (settingChecks_getElem_iff whole (Nat.lt_trans before here)).mpr
        (first _ j.succ_pos (Nat.succ_lt_succ before))
  rw [rangeCheck, found, Option.map_some]

section
variable (formed : RosterFormed image)
include formed

theorem ownEntryCheck_eq_none_iff {station : Nat} (strapped : station < 64) :
    ownEntryCheck image station = none ↔ roleByte image station ≠ 0 := by
  rw [ownEntryCheck, ne_eq, ← ownRole_eq_absent_iff whole formed strapped]
  split
  · next absent => exact iff_of_false (Option.some_ne_none _) (not_not_intro absent)
  · next present => exact iff_of_true rfl present

theorem ownEntryCheck_eq_some {station : Nat} (strapped : station < 64) (missing : roleByte image station = 0) :
    ownEntryCheck image station = some (.ownAbsent, station) :=
  if_pos ((ownRole_eq_absent_iff whole formed strapped).mpr missing)

theorem roleCountCheck_eq_none_iff : roleCountCheck image = none ↔ ∀ r : Nat, RoleInLimits image r := by
  rw [roleCountCheck, Option.map_eq_none_iff, roleOutOfLimits_eq_none_iff whole formed]

theorem roleCountCheck_eq_some (out : ∃ r : Nat, ¬ RoleInLimits image r) :
    ∃ r : Nat, ¬ RoleInLimits image r ∧ roleCountCheck image = some (.roleCount, r) := by
  cases found : roleOutOfLimits (imageRoster image) with
  | none =>
    obtain ⟨r, beyond⟩ := out
    exact absurd ((roleOutOfLimits_eq_none_iff whole formed).mp found r) beyond
  | some role =>
    exact ⟨_, not_roleInLimits_of_roleOutOfLimits whole formed found, by rw [roleCountCheck, found, Option.map_some]⟩

theorem cabinIndex_reads (n : Nat) (station : n < 64) :
    (entryAt image n).cabin = optionalByte (cabinIndexByte image n) := (entryAt_fields whole formed station).2.1

theorem rank_reads (n : Nat) (station : n < 64) : (entryAt image n).rank = optionalByte (rankByte image n) :=
  (entryAt_fields whole formed station).2.2

theorem cabinIndexCheck_eq_none_iff :
    cabinIndexCheck image = none ↔ ∀ v : Nat, v ≤ 47 → ¬ Shared (cabinIndexByte image) v := by
  rw [cabinIndexCheck, Option.map_eq_none_iff, sharedBy_eq_none_iff (cabinIndex_reads whole formed) (by decide)]
  simp only [Nat.lt_succ_iff]

theorem cabinIndexCheck_eq_some {n : Nat} (station : n < 64) (index : cabinIndexByte image n ≤ 47)
    (shared : Shared (cabinIndexByte image) (cabinIndexByte image n))
    (lowest : ∀ v : Nat, v < cabinIndexByte image n → ¬ Shared (cabinIndexByte image) v)
    (first : ∀ m : Nat, m < n → cabinIndexByte image m ≠ cabinIndexByte image n) :
    cabinIndexCheck image = some (.cabinIndex, n) := by
  rw [cabinIndexCheck, sharedBy_eq_some (cabinIndex_reads whole formed) (by decide) station
    (Nat.lt_succ_of_le index) shared lowest first, Option.map_some]

theorem rankCheck_eq_none_iff : rankCheck image = none ↔ ∀ v : Nat, v ≤ 7 → ¬ Shared (rankByte image) v := by
  rw [rankCheck, Option.map_eq_none_iff, sharedBy_eq_none_iff (rank_reads whole formed) (by decide)]
  simp only [Nat.lt_succ_iff]

theorem rankCheck_eq_some {n : Nat} (station : n < 64) (rank : rankByte image n ≤ 7)
    (shared : Shared (rankByte image) (rankByte image n))
    (lowest : ∀ v : Nat, v < rankByte image n → ¬ Shared (rankByte image) v)
    (first : ∀ m : Nat, m < n → rankByte image m ≠ rankByte image n) : rankCheck image = some (.rank, n) := by
  rw [rankCheck, sharedBy_eq_some (rank_reads whole formed) (by decide) station (Nat.lt_succ_of_le rank) shared lowest
    first, Option.map_some]

theorem markerCheck_eq_none_iff : markerCheck image = none ↔ Marked image := by
  simp [markerCheck, noRank_iff_not_marked whole formed]

theorem markerCheck_eq_some (unmarked : ¬ Marked image) : markerCheck image = some (.noMarker, 0) :=
  if_pos ((noRank_iff_not_marked whole formed).mpr unmarked)

end

/-! ### The judgement as a whole (R178 to R180) -/

/-- An image passes just when it meets every check. -/
theorem imageFailure_eq_none_iff {station : Nat} (strapped : station < 64) :
    imageFailure image station = none ↔
      imageAt image 0 = 1 ∧ (crc16 (image.take 254)).toNat = imageAt image 254 * 256 + imageAt image 255 ∧
        RosterFormed image ∧ roleByte image station ≠ 0 ∧ (∀ r : Nat, RoleInLimits image r) ∧
        (∀ v : Nat, v ≤ 47 → ¬ Shared (cabinIndexByte image) v) ∧ (∀ v : Nat, v ≤ 7 → ¬ Shared (rankByte image) v) ∧
        Marked image ∧ ∀ k : Nat, 1 ≤ k → k ≤ 31 → SettingFits image k := by
  simp only [imageFailure_eq_first, Option.or_eq_none_iff, versionCheck_eq_none_iff whole, crcCheck_eq_none_iff whole,
    rosterFieldCheck_eq_none_iff whole, rangeCheck_eq_none_iff whole]
  refine and_congr_right fun _ => and_congr_right fun _ => and_congr_right fun formed => ?_
  rw [ownEntryCheck_eq_none_iff whole formed strapped, roleCountCheck_eq_none_iff whole formed,
    cabinIndexCheck_eq_none_iff whole formed, rankCheck_eq_none_iff whole formed, markerCheck_eq_none_iff whole formed]

end

/-- Settles O51: each check passes just on its condition, and the judgement is the first failure of the nine. -/
theorem passingImageIsSound : Obligations.PassingImageIsSound := by
  intro image station whole strapped
  refine ⟨fun wrong => ?version, fun version wrong => ?crc, fun version crc =>
    ⟨fun n inside bad first => ?rosterField, fun formed missing => ?ownAbsent, fun formed own =>
      ⟨fun out => ?roleCount, fun limits =>
        ⟨fun n inside index shared lowest first => ?cabinIndex, fun cabins =>
          ⟨fun n inside rank shared lowest first => ?rank, fun ranks =>
            ⟨fun unmarked => ⟨0, ?noMarker⟩, fun marked =>
              ⟨fun k low high bad first => ?range, fun fits => ?passes⟩⟩⟩⟩⟩⟩,
    (imageFailure_eq_none_iff whole strapped).mp⟩
  case passes =>
    exact (imageFailure_eq_none_iff whole strapped).mpr
      ⟨version, crc, formed, own, limits, cabins, ranks, marked, fits⟩
  all_goals rw [imageFailure_eq_first]
  case version => rw [versionCheck_eq_some whole wrong, Option.some_or]; rfl
  all_goals rw [(versionCheck_eq_none_iff whole).mpr version, Option.none_or]
  case crc => rw [crcCheck_eq_some whole wrong, Option.some_or]
  all_goals rw [(crcCheck_eq_none_iff whole).mpr crc, Option.none_or]
  case rosterField => rw [rosterFieldCheck_eq_some whole inside bad first, Option.some_or]
  all_goals rw [(rosterFieldCheck_eq_none_iff whole).mpr formed, Option.none_or]
  case ownAbsent => rw [ownEntryCheck_eq_some whole formed strapped missing, Option.some_or]
  all_goals rw [(ownEntryCheck_eq_none_iff whole formed strapped).mpr own, Option.none_or]
  case roleCount =>
    obtain ⟨r, beyond, found⟩ := roleCountCheck_eq_some whole formed out
    exact ⟨r, beyond, by rw [found, Option.some_or]⟩
  all_goals rw [(roleCountCheck_eq_none_iff whole formed).mpr limits, Option.none_or]
  case cabinIndex => rw [cabinIndexCheck_eq_some whole formed inside index shared lowest first, Option.some_or]
  all_goals rw [(cabinIndexCheck_eq_none_iff whole formed).mpr cabins, Option.none_or]
  case rank => rw [rankCheck_eq_some whole formed inside rank shared lowest first, Option.some_or]
  all_goals rw [(rankCheck_eq_none_iff whole formed).mpr ranks, Option.none_or]
  case noMarker => rw [markerCheck_eq_some whole formed unmarked, Option.some_or]
  case range =>
    rw [(markerCheck_eq_none_iff whole formed).mpr marked, Option.none_or, rangeCheck_eq_some whole low high bad first]

end Sys2Proof.Machine
end
